-- ==== Sys2Proof/Word.lean ====
section
/-! DEFINITION. The bit-vector types of the ZipCrypto keystate engine (spec/00_scope.md R15, R16: unsigned, bit 0 least
significant, 32-bit arithmetic modulo 2^32). -/
namespace Sys2Proof

/-- A data byte, a password byte, a keystream byte. -/
abbrev Byte := BitVec 8

/-- A 32-bit value: a key register, a table entry, the response data. -/
abbrev Word := BitVec 32

/-- A command word, presented whole on the command port (R100). -/
abbrev CmdWord := BitVec 16

/-- `zext_32(b)` of R17. -/
abbrev zext32 (b : Byte) : Word := b.zeroExtend 32

end Sys2Proof
end

