-- ==== Sys2Proof/Syntax.lean ====
section
/-! DEFINITION. The 21 commands of spec/opcode_table.json (spec/30_encoding.md R102), one constructor per row. The only
operand is the DATA byte (R105). A zero-class command has no operand. -/
namespace Sys2Proof

inductive Instr where
  /-- R140, load the initial constants. -/
  | kinit
  /-- R141, fold one byte into the keys. -/
  | kupd (b : Byte)
  /-- R142, read the keystream byte. -/
  | ksb
  /-- R143, encrypt one byte in raw mode. -/
  | kenc (p : Byte)
  /-- R144, decrypt one byte in raw mode. -/
  | kdec (c : Byte)
  /-- R171, open a verifying decrypting stream. -/
  | openDec
  /-- R172, open a decrypting stream without verification. -/
  | openDecNv
  /-- R200, open an encrypting stream. -/
  | openEnc
  /-- R230, one password byte of an open adapter. -/
  | pwb (b : Byte)
  /-- R173, one source byte through the decrypting stream. -/
  | dbyte (c : Byte)
  /-- R202, one caller byte through the encrypting stream. -/
  | ebyte (p : Byte)
  /-- R203, the header alone. -/
  | ehdr
  /-- R231, discard the adapter. -/
  | close
  /-- R232, the two metadata flag bits. -/
  | mflags (f : Byte)
  /-- R233, modification time bits 7:0. -/
  | mtimeLo (b : Byte)
  /-- R234, modification time bits 15:8. -/
  | mtimeHi (b : Byte)
  /-- R235, checksum bits 7:0. -/
  | mcrc0 (b : Byte)
  /-- R236, checksum bits 15:8. -/
  | mcrc1 (b : Byte)
  /-- R237, checksum bits 23:16. -/
  | mcrc2 (b : Byte)
  /-- R238, checksum bits 31:24. -/
  | mcrc3 (b : Byte)
  /-- R239, read the register of index `i`. -/
  | rdreg (i : Byte)
  deriving DecidableEq, Repr

end Sys2Proof
end

