-- ==== Sys2Proof/WellFormed.lean ====
section
/-! DEFINITION. Which commands have a legal word (spec/30_encoding.md R101): the `imm8` and `zero` classes always, MFLAGS
when bits 7:2 of its operand are 0, RDREG when its index is at most 5. -/
namespace Sys2Proof

def Instr.wf : Instr → Bool
  | .kinit => true
  | .kupd _ => true
  | .ksb => true
  | .kenc _ => true
  | .kdec _ => true
  | .openDec => true
  | .openDecNv => true
  | .openEnc => true
  | .pwb _ => true
  | .dbyte _ => true
  | .ebyte _ => true
  | .ehdr => true
  | .close => true
  | .mflags f => f.extractLsb' 2 6 == 0#6
  | .mtimeLo _ => true
  | .mtimeHi _ => true
  | .mcrc0 _ => true
  | .mcrc1 _ => true
  | .mcrc2 _ => true
  | .mcrc3 _ => true
  | .rdreg i => decide (i ≤ 0x05#8)

/-- The command is well formed: its word is legal. -/
abbrev Instr.WellFormed (i : Instr) : Prop := i.wf = true

end Sys2Proof
end

