-- ==== Sys2Proof/Decode.lean ====
section
/-! DEFINITION. The decoder, total on all 65536 words (spec/30_encoding.md R102, R103), and the encoder written from the
same table. -/
namespace Sys2Proof

/-- Why a word is illegal: the four checks of R103, in its order. Each one is ILLEGAL_CMD (R272). -/
inductive DecodeError where
  /-- The opcode is none of 0x01..0x05, 0x10..0x17, 0x20..0x26, 0x30. -/
  | unassignedOpcode
  /-- A `zero`-class command with DATA other than 0x00. -/
  | nonZeroData
  /-- MFLAGS with a bit of DATA[7:2] set. -/
  | flagsReserved
  /-- RDREG with an index above 5. -/
  | indexOutOfRange
  deriving DecidableEq, Repr

/-- OP, bits 15:8 of a command word (R100). -/
def opField (w : CmdWord) : Byte := w.extractLsb' 8 8

/-- DATA, bits 7:0 of a command word (R100). -/
def dataField (w : CmdWord) : Byte := w.extractLsb' 0 8

/-- The `zero` class of R101: DATA must be 0x00. -/
def zeroClass (d : Byte) (i : Instr) : Except DecodeError Instr :=
  if d = 0x00#8 then .ok i else .error .nonZeroData

/-- The `flags` class of R101: DATA[7:2] must be 0. -/
def flagsClass (d : Byte) : Except DecodeError Instr :=
  if d.extractLsb' 2 6 = 0#6 then .ok (.mflags d) else .error .flagsReserved

/-- The `index` class of R101: DATA is at most 0x05. -/
def indexClass (d : Byte) : Except DecodeError Instr :=
  if d ≤ 0x05#8 then .ok (.rdreg d) else .error .indexOutOfRange

/-- The command of an opcode and a DATA byte (the table of R102). -/
def decodeFields (op d : Byte) : Except DecodeError Instr :=
  match op.toNat with
  | 0x01 => zeroClass d .kinit
  | 0x02 => .ok (.kupd d)
  | 0x03 => zeroClass d .ksb
  | 0x04 => .ok (.kenc d)
  | 0x05 => .ok (.kdec d)
  | 0x10 => zeroClass d .openDec
  | 0x11 => zeroClass d .openDecNv
  | 0x12 => zeroClass d .openEnc
  | 0x13 => .ok (.pwb d)
  | 0x14 => .ok (.dbyte d)
  | 0x15 => .ok (.ebyte d)
  | 0x16 => zeroClass d .ehdr
  | 0x17 => zeroClass d .close
  | 0x20 => flagsClass d
  | 0x21 => .ok (.mtimeLo d)
  | 0x22 => .ok (.mtimeHi d)
  | 0x23 => .ok (.mcrc0 d)
  | 0x24 => .ok (.mcrc1 d)
  | 0x25 => .ok (.mcrc2 d)
  | 0x26 => .ok (.mcrc3 d)
  | 0x30 => indexClass d
  | _ => .error .unassignedOpcode

/-- `decode(w)` of R103. -/
def decode (w : CmdWord) : Except DecodeError Instr :=
  decodeFields (opField w) (dataField w)

/-- The opcode of a command (the OP column of R102). -/
def opcodeOf : Instr → Byte
  | .kinit => 0x01#8
  | .kupd _ => 0x02#8
  | .ksb => 0x03#8
  | .kenc _ => 0x04#8
  | .kdec _ => 0x05#8
  | .openDec => 0x10#8
  | .openDecNv => 0x11#8
  | .openEnc => 0x12#8
  | .pwb _ => 0x13#8
  | .dbyte _ => 0x14#8
  | .ebyte _ => 0x15#8
  | .ehdr => 0x16#8
  | .close => 0x17#8
  | .mflags _ => 0x20#8
  | .mtimeLo _ => 0x21#8
  | .mtimeHi _ => 0x22#8
  | .mcrc0 _ => 0x23#8
  | .mcrc1 _ => 0x24#8
  | .mcrc2 _ => 0x25#8
  | .mcrc3 _ => 0x26#8
  | .rdreg _ => 0x30#8

/-- The DATA byte of a command: its operand, or 0x00 for the `zero` class (R101). -/
def dataOf : Instr → Byte
  | .kinit => 0x00#8
  | .kupd b => b
  | .ksb => 0x00#8
  | .kenc p => p
  | .kdec c => c
  | .openDec => 0x00#8
  | .openDecNv => 0x00#8
  | .openEnc => 0x00#8
  | .pwb b => b
  | .dbyte c => c
  | .ebyte p => p
  | .ehdr => 0x00#8
  | .close => 0x00#8
  | .mflags f => f
  | .mtimeLo b => b
  | .mtimeHi b => b
  | .mcrc0 b => b
  | .mcrc1 b => b
  | .mcrc2 b => b
  | .mcrc3 b => b
  | .rdreg i => i

/-- The command word `{OP, DATA}` of a command (R100). -/
def encode (i : Instr) : CmdWord := opcodeOf i ++ dataOf i

/-- The command word whose bits are `w`, of which the table gives the low `nbits`; every higher bit is 0. -/
def tableWord (nbits w : Nat) : CmdWord := BitVec.ofNat 16 (w % 2 ^ nbits)

/-- The command the decoder reads from the word whose bits are `w`, none where it refuses. -/
def decodeTableWord (nbits w : Nat) : Option Instr :=
  match decode (tableWord nbits w) with
  | .ok i => some i
  | .error _ => none

end Sys2Proof
end

