-- ==== Sys2Proof/Config.lean ====
section
/-! DEFINITION. The constants the spec fixes (spec/00_scope.md R7, R8, R10) and the two parameters it leaves open (R14):
the entropy bytes and the number of engines. The open ones are opaque: no proof can see a value of theirs. -/
namespace Sys2Proof

/-- INIT0 of R7. -/
def Config.init0 : Word := 0x12345678#32

/-- INIT1 of R7. -/
def Config.init1 : Word := 0x23456789#32

/-- INIT2 of R7. -/
def Config.init2 : Word := 0x34567890#32

/-- MUL of R8, 0x08088405. -/
def Config.mul : Word := 134775813#32

/-- INC of R8. -/
def Config.inc : Word := 1#32

/-- HDR_LEN of R10. -/
def Config.hdrLen : BitVec 4 := 12#4

/-- SALT_LEN of R10. -/
def Config.saltLen : Nat := 11

/-- ENTROPY of R14 and R73, a free value: the byte that the platform's entropy input number `port` gives at its draw
number `n` (counted from 0) once the bytes listed in `State.entropy` are used up. "a free draw (any value in 0..255 each,
under no law, independent of the block's state)". Log entry 3. -/
opaque Config.entropy (port n : Nat) : Byte

/-- N_ENGINES of R14 and R290, a platform parameter. Log entry 4. -/
opaque Config.nEngines : Nat

end Sys2Proof
end

