-- ==== Sys2Proof/Machine/State.lean ====
section
/-! DEFINITION. The state of one engine (spec/10_state.md R30 to R51, spec/20_memory.md R72), the last response
(spec/30_encoding.md R106), the entropy input (R73) and the host's pending events (R31, R84); its value after reset (R50). -/
namespace Sys2Proof.Machine

/-- The key triple (K0, K1, K2) of R32. -/
structure Keys where
  k0 : Word
  k1 : Word
  k2 : Word
  deriving DecidableEq, Repr

/-- The initial constants (INIT0, INIT1, INIT2) of R7. -/
def Keys.init : Keys := ⟨Config.init0, Config.init1, Config.init2⟩

/-- ROLE (R34): which adapter is open. The value 3, "never held", has no name. -/
inductive Role where
  /-- 0, raw mode, no adapter. -/
  | none
  /-- 1, decrypting stream. -/
  | dec
  /-- 2, encrypting stream. -/
  | enc
  deriving DecidableEq, Repr

/-- A response (R106): RESP_STATUS and RESP_DATA. -/
structure Response where
  status : BitVec 4
  data   : Word
  deriving DecidableEq, Repr

/-- The faults of R271, each a status in the response of the command that raises it; none halts the block (R270). -/
inductive FaultCode where
  /-- Code 1 (R272). -/
  | illegalCmd
  /-- Code 2 (R273). -/
  | badState
  /-- Code 3 (R274). -/
  | adapterDead
  /-- Code 4 (R275). -/
  | notEncrypted
  /-- Code 5 (R276). -/
  | encFlagNotSet
  /-- Code 6 (R277). -/
  | invalidPassword
  deriving DecidableEq, Repr

/-- What the outside can do to the block between two steps. The model's own type: the spec keeps the command list in the
host (R31). Log entry 2. -/
inductive HostEvent where
  /-- The host presents a command word on the command port (R84, R100). -/
  | command (w : CmdWord)
  /-- The host removes up to `n` bytes from the front of OUT (R72, R86). -/
  | drain (n : Nat)
  /-- The platform resets the block, between commands (R310). -/
  | reset
  /-- Two commands presented together, "not a defined input" (R84). -/
  | together (w₁ w₂ : CmdWord)
  deriving DecidableEq, Repr

/-- The state of one engine. The last four fields are the model's own (log entries 2, 3 and 4). -/
structure State where
  /-- K0, K1, K2 (R32). -/
  keys : Keys
  /-- ROLE (R34). -/
  role : Role
  /-- VERIFY (R35). -/
  verify : Bool
  /-- HDR_CNT (R36). -/
  hdrCnt : BitVec 4
  /-- DEAD (R37). -/
  dead : Bool
  /-- STICKY_ERR (R39). -/
  stickyErr : BitVec 4
  /-- META_ENC (R40). -/
  metaEnc : Bool
  /-- META_DD (R41). -/
  metaDd : Bool
  /-- META_MODTIME (R42). -/
  metaModtime : BitVec 16
  /-- META_CRC (R43). -/
  metaCrc : BitVec 32
  /-- OUT (R72), the bytes not yet drained, front first. -/
  out : List Byte
  /-- The response of the last command (R106). Its value before the first command is the model's (log entry 1). -/
  resp : Response
  /-- The entropy bytes the platform has already put at the entropy port, next byte first (R51, R73). -/
  entropy : List Byte
  /-- Which of the platform's entropy inputs this engine draws from (R290). -/
  entropyPort : Nat
  /-- How many bytes of `Config.entropy` this engine has drawn. -/
  draws : Nat
  /-- The host's events still to come, next one first (R31, R84). -/
  host : List HostEvent
  deriving DecidableEq, Repr

/-- The reasons the machine stops for good: there is none. "The next command is accepted normally: a fault does not halt
the block" (R270); a fault of the spec is a response and a next state (`State.raise`). Nobody raises a `Fault`; safe. -/
inductive Fault where
  deriving DecidableEq, Repr

/-- The reasons a step has no meaning. -/
inductive Refusal where
  /-- Raised by an arm of `exec` whose instruction has no meaning yet; no arm does. Safe. -/
  | notModelled (mnemonic : String)
  /-- Raised by the step when the host presents two commands together: "a model gives them no step (it refuses such a
  schedule rather than choosing an order)" (R84, U1). Safe. -/
  | concurrentCommands
  deriving DecidableEq, Repr

/-- What a meaning answers. -/
abbrev Result := Host.Outcome State Fault Refusal

/-- The state after reset (R50), with no event pending and no entropy byte listed. -/
def State.reset : State where
  keys := Keys.init
  role := .none
  verify := false
  hdrCnt := 0#4
  dead := false
  stickyErr := 0#4
  metaEnc := false
  metaDd := false
  metaModtime := 0x0000#16
  metaCrc := 0x00000000#32
  out := []
  resp := ⟨0#4, 0#32⟩
  entropy := []
  entropyPort := 0
  draws := 0
  host := []

end Sys2Proof.Machine
end

