-- ==== Sys2Proof/Machine/Cipher.lean ====
section
/-! DEFINITION. The pure functions of the KeyState (spec/41_keystate.md R131 to R139). -/
namespace Sys2Proof.Machine

/-- `CRCSTEP(c, b)` of R131. -/
def crcStep (c : Word) (b : Byte) : Word :=
  lut (c.extractLsb' 0 8 ^^^ b) ^^^ (c >>> 8)

/-- `UPDATE((K0, K1, K2), b)` of R132; each step reads the new value of the one before it (R133). -/
def update (k : Keys) (b : Byte) : Keys :=
  let k0 := crcStep k.k0 b
  let k1 := (k.k1 + zext32 (k0.extractLsb' 0 8)) * Config.mul + Config.inc
  let k2 := crcStep k.k2 (k1.extractLsb' 24 8)
  ⟨k0, k1, k2⟩

/-- `KSBYTE(K2)` of R134. -/
def ksByte (k2 : Word) : Byte :=
  let t := k2 ||| 0x00000002#32
  (t * (t ^^^ 1#32)).extractLsb' 8 8

/-- One update per byte, in order: the loop of R136. -/
def updateAll (k : Keys) (bs : List Byte) : Keys := bs.foldl update k

/-- `INIT(pw)` of R136. -/
def initKeys (pw : List Byte) : Keys := updateAll Keys.init pw

/-- `ENCBYTE(K, p)` of R137: the ciphertext byte, and the keys updated with the plaintext. -/
def encByte (k : Keys) (p : Byte) : Byte × Keys := (p ^^^ ksByte k.k2, update k p)

/-- `DECBYTE(K, c)` of R138: the plaintext byte, and the keys updated with the plaintext. -/
def decByte (k : Keys) (c : Byte) : Byte × Keys :=
  let p := c ^^^ ksByte k.k2
  (p, update k p)

/-- `ENCBYTE` over a byte sequence, keys passed along: the ciphertext and the last keys. -/
def encBytes : Keys → List Byte → List Byte × Keys
  | k, [] => ([], k)
  | k, p :: ps =>
    let r := encBytes (encByte k p).2 ps
    ((encByte k p).1 :: r.1, r.2)

/-- `DECBYTE` over a byte sequence, keys passed along: the plaintext and the last keys. -/
def decBytes : Keys → List Byte → List Byte × Keys
  | k, [] => ([], k)
  | k, c :: cs =>
    let r := decBytes (decByte k c).2 cs
    ((decByte k c).1 :: r.1, r.2)

/-- The CRC-32 of a byte sequence by the table, initial and final exclusive or with 0xFFFFFFFF (the check of R83). -/
def crc32 (bs : List Byte) : Word := (bs.foldl crcStep 0xFFFFFFFF#32) ^^^ 0xFFFFFFFF#32

end Sys2Proof.Machine
end

