-- ==== Sys2Proof/Machine/Ops.lean ====
section
/-! DEFINITION. The named operations every meaning is made of: the response and the raising of a fault
(spec/60_exceptions.md R270, R271, R280), the writes of the state elements (spec/10_state.md), `Emit` and `Draw`
(spec/20_memory.md R72, R73), the drain and the reset event (R72, R310). -/
namespace Sys2Proof.Machine

/-- The 4-bit code of a fault (R271). -/
def FaultCode.code : FaultCode → BitVec 4
  | .illegalCmd => 1#4
  | .badState => 2#4
  | .adapterDead => 3#4
  | .notEncrypted => 4#4
  | .encFlagNotSet => 5#4
  | .invalidPassword => 6#4

/-- `respond(OK, d)` (R106). -/
def State.respond (s : State) (d : Word) : State := { s with resp := ⟨0#4, d⟩ }

/-- `raise F`: the whole trap entry. The response carries the code and data 0 (R270), and STICKY_ERR takes the code while
it is 0 (R280). -/
def State.raise (s : State) (f : FaultCode) : State :=
  { s with
    stickyErr := if s.stickyErr = 0#4 then f.code else s.stickyErr
    resp := ⟨f.code, 0#32⟩ }

/-- `(K0, K1, K2) <- k`. -/
def State.setKeys (s : State) (k : Keys) : State := { s with keys := k }

/-- `HDR_CNT <- n`. -/
def State.setHdrCnt (s : State) (n : BitVec 4) : State := { s with hdrCnt := n }

/-- `DEAD <- 1` (R174). -/
def State.setDead (s : State) : State := { s with dead := true }

/-- The writes of an OPEN command (R171, R172, R200): the initial keys, ROLE, VERIFY, HDR_CNT and DEAD. -/
def State.openAs (s : State) (r : Role) (v : Bool) : State :=
  { s with keys := Keys.init, role := r, verify := v, hdrCnt := 0#4, dead := false }

/-- The writes of CLOSE (R231); the keys, the metadata, STICKY_ERR and OUT stay. -/
def State.closeAdapter (s : State) : State :=
  { s with role := .none, verify := false, hdrCnt := 0#4, dead := false }

/-- `META_ENC <- enc; META_DD <- dd` (R232). -/
def State.setFlags (s : State) (enc dd : Bool) : State := { s with metaEnc := enc, metaDd := dd }

/-- `META_MODTIME <- t`. -/
def State.setModtime (s : State) (t : BitVec 16) : State := { s with metaModtime := t }

/-- `META_CRC <- c`. -/
def State.setCrc (s : State) (c : BitVec 32) : State := { s with metaCrc := c }

/-- `Emit(b)` (R72): append at the end of OUT. -/
def State.emit (s : State) (b : Byte) : State := { s with out := s.out ++ [b] }

/-- `Draw()` (R73): the next byte at the entropy port and the state after it. A draw always succeeds: past the listed
bytes it gives a free value. -/
def State.draw (s : State) : Byte × State :=
  match s.entropy with
  | b :: rest => (b, { s with entropy := rest })
  | [] => (Config.entropy s.entropyPort s.draws, { s with draws := s.draws + 1 })

/-- `n` draws in order. -/
def State.drawN : Nat → State → List Byte × State
  | 0, s => ([], s)
  | n + 1, s =>
    let r := State.drawN n s.draw.2
    (s.draw.1 :: r.1, r.2)

/-- The host removes up to `n` bytes from the front of OUT; nothing else changes (R72). -/
def State.drain (s : State) (n : Nat) : State := { s with out := s.out.drop n }

/-- The reset event (R310): every state element takes its reset value. The platform's entropy source is not touched, and
the host's later events stay its own. -/
def State.resetEvent (s : State) : State :=
  { State.reset with
    entropy := s.entropy
    entropyPort := s.entropyPort
    draws := s.draws
    host := s.host }

end Sys2Proof.Machine
end

