-- ==== Sys2Proof/Machine/Flags.lean ====
section
/-! DEFINITION. The values derived from the state: HDR_DONE, STATUS and META (spec/10_state.md R38, R47, R48), the phase
(R44) and the verification byte (spec/42_decrypting_stream.md R170). -/
namespace Sys2Proof.Machine

/-- The two bits of ROLE (R34). -/
def Role.bits : Role → BitVec 2
  | .none => 0#2
  | .dec => 1#2
  | .enc => 2#2

/-- HDR_DONE (R38). -/
def State.hdrDone (s : State) : Bool := s.hdrCnt == Config.hdrLen

/-- STATUS (R47): `{16'b0, STICKY_ERR, 3'b0, HDR_DONE, HDR_CNT, DEAD, VERIFY, ROLE}`. -/
def State.status (s : State) : Word :=
  0#16 ++ s.stickyErr ++ 0#3 ++ BitVec.ofBool s.hdrDone ++ s.hdrCnt ++ BitVec.ofBool s.dead
    ++ BitVec.ofBool s.verify ++ s.role.bits

/-- META (R48): `{14'b0, META_DD, META_ENC, META_MODTIME}`. -/
def State.metaWord (s : State) : Word :=
  0#14 ++ BitVec.ofBool s.metaDd ++ BitVec.ofBool s.metaEnc ++ s.metaModtime

/-- `VBYTE()` (R170). -/
def State.vbyte (s : State) : Byte :=
  if s.metaDd then s.metaModtime.extractLsb' 8 8 else s.metaCrc.extractLsb' 24 8

/-- The phases of R44. -/
inductive Phase where
  | raw
  | keying
  | header
  | payload
  | dead
  deriving DecidableEq, Repr

/-- The phase of a state (R44). The rule's conditions split the states that meet R45; outside those, a state with DEAD = 1
is put in DEAD and one with a count over 12 in HEADER (log entry 6). -/
def State.phase (s : State) : Phase :=
  if s.role = .none then .raw
  else if s.dead then .dead
  else if s.hdrCnt = 0#4 then .keying
  else if s.hdrCnt = Config.hdrLen then .payload
  else .header

end Sys2Proof.Machine
end

