-- ==== Sys2Proof/Machine/Operands.lean ====
section
/-! DEFINITION. The operand forms (spec/30_encoding.md R105): an `imm8` operand is the byte itself; `flags` and `index` are
read here. With them, the field writes `X[hi:lo] <- b` of the metadata loads (spec/00_scope.md R16). -/
namespace Sys2Proof.Machine

/-- `enc = w[0]` of a `flags` operand (R105). -/
def flagEnc (f : Byte) : Bool := f.getLsbD 0

/-- `dd = w[1]` of a `flags` operand (R105). -/
def flagDd (f : Byte) : Bool := f.getLsbD 1

/-- The register an `index` operand names (R46), none above 5. -/
def State.readReg (s : State) (i : Byte) : Option Word :=
  match i.toNat with
  | 0 => some s.keys.k0
  | 1 => some s.keys.k1
  | 2 => some s.keys.k2
  | 3 => some s.status
  | 4 => some s.metaWord
  | 5 => some s.metaCrc
  | _ => none

/-- `X[7:0] <- b` on 16 bits. -/
def setLow16 (x : BitVec 16) (b : Byte) : BitVec 16 := x.extractLsb' 8 8 ++ b

/-- `X[15:8] <- b` on 16 bits. -/
def setHigh16 (x : BitVec 16) (b : Byte) : BitVec 16 := b ++ x.extractLsb' 0 8

/-- `X[7:0] <- b` on 32 bits. -/
def setByte0 (x : BitVec 32) (b : Byte) : BitVec 32 := x.extractLsb' 8 24 ++ b

/-- `X[15:8] <- b` on 32 bits. -/
def setByte1 (x : BitVec 32) (b : Byte) : BitVec 32 := x.extractLsb' 16 16 ++ b ++ x.extractLsb' 0 8

/-- `X[23:16] <- b` on 32 bits. -/
def setByte2 (x : BitVec 32) (b : Byte) : BitVec 32 := x.extractLsb' 24 8 ++ b ++ x.extractLsb' 0 16

/-- `X[31:24] <- b` on 32 bits. -/
def setByte3 (x : BitVec 32) (b : Byte) : BitVec 32 := b ++ x.extractLsb' 0 24

end Sys2Proof.Machine
end

