-- ==== Sys2Proof/Machine/Decrypting.lean ====
section
/-! DEFINITION. The decrypting stream: OPEN_DEC, OPEN_DEC_NV, DBYTE (spec/42_decrypting_stream.md R171 to R174). -/
namespace Sys2Proof.Machine

/-- OPEN_DEC (R171). -/
def execOpenDec (s : State) : Result :=
  if s.role ≠ .none then .next (s.raise .badState)
  else if s.metaEnc = false then .next (s.raise .notEncrypted)
  else .next ((s.openAs .dec true).respond 0)

/-- OPEN_DEC_NV (R172): the metadata is not read. -/
def execOpenDecNv (s : State) : Result :=
  if s.role ≠ .none then .next (s.raise .badState)
  else .next ((s.openAs .dec false).respond 0)

/-- The header part of DBYTE (R173, R174), the keys already updated: `p` is the decrypted header byte. -/
def State.headerByte (s : State) (p : Byte) : State :=
  let t := s.setHdrCnt (s.hdrCnt + 1#4)
  if t.hdrCnt = Config.hdrLen ∧ t.verify = true ∧ p ≠ t.vbyte then t.setDead.raise .invalidPassword
  else t.respond 0

/-- DBYTE c (R173). -/
def execDbyte (c : Byte) (s : State) : Result :=
  if s.role ≠ .dec then .next (s.raise .badState)
  else if s.dead then .next (s.raise .adapterDead)
  else
    let r := decByte s.keys c
    let t := s.setKeys r.2
    if t.hdrCnt < Config.hdrLen then .next (t.headerByte r.1)
    else .next ((t.emit r.1).respond 0)

end Sys2Proof.Machine
end

