-- ==== Sys2Proof/Machine/Encrypting.lean ====
section
/-! DEFINITION. The encrypting stream: OPEN_ENC, the header generation, EBYTE, EHDR (spec/43_encrypting_stream.md R200 to
R203). -/
namespace Sys2Proof.Machine

/-- OPEN_ENC (R200). -/
def execOpenEnc (s : State) : Result :=
  if s.role ≠ .none then .next (s.raise .badState)
  else if s.metaEnc = false then .next (s.raise .encFlagNotSet)
  else .next ((s.openAs .enc false).respond 0)

/-- `(c, K') <- ENCBYTE(K, p); K <- K'; Emit(c)`. -/
def State.encEmit (s : State) (p : Byte) : State :=
  let r := encByte s.keys p
  (s.setKeys r.2).emit r.1

/-- `EMIT_HEADER()` (R201): eleven draws, then the verification byte; the twelve bytes encrypted and emitted in order. -/
def State.emitHeader (s : State) : State :=
  let r := s.drawN Config.saltLen
  ((r.1 ++ [r.2.vbyte]).foldl State.encEmit r.2).setHdrCnt Config.hdrLen

/-- `if HDR_CNT < 12: EMIT_HEADER()` (R202, R203). -/
def State.headerIfDue (s : State) : State :=
  if s.hdrCnt < Config.hdrLen then s.emitHeader else s

/-- EBYTE p (R202). -/
def execEbyte (p : Byte) (s : State) : Result :=
  if s.role ≠ .enc then .next (s.raise .badState)
  else if s.dead then .next (s.raise .adapterDead)
  else .next ((s.headerIfDue.encEmit p).respond 0)

/-- EHDR (R203). -/
def execEhdr (s : State) : Result :=
  if s.role ≠ .enc then .next (s.raise .badState)
  else if s.dead then .next (s.raise .adapterDead)
  else .next (s.headerIfDue.respond 0)

end Sys2Proof.Machine
end

