-- ==== Sys2Proof/Machine/KeyState.lean ====
section
/-! DEFINITION. The KeyState commands KINIT, KUPD, KSB, KENC, KDEC (spec/41_keystate.md R140 to R144). Each is legal only
in raw mode. -/
namespace Sys2Proof.Machine

/-- KINIT (R140). -/
def execKinit (s : State) : Result :=
  if s.role ≠ .none then .next (s.raise .badState)
  else .next ((s.setKeys Keys.init).respond 0)

/-- KUPD b (R141). -/
def execKupd (b : Byte) (s : State) : Result :=
  if s.role ≠ .none then .next (s.raise .badState)
  else .next ((s.setKeys (update s.keys b)).respond 0)

/-- KSB (R142): the keys do not advance. -/
def execKsb (s : State) : Result :=
  if s.role ≠ .none then .next (s.raise .badState)
  else .next (s.respond (zext32 (ksByte s.keys.k2)))

/-- KENC p (R143): the ciphertext goes to the response, not to OUT. -/
def execKenc (p : Byte) (s : State) : Result :=
  if s.role ≠ .none then .next (s.raise .badState)
  else
    let r := encByte s.keys p
    .next ((s.setKeys r.2).respond (zext32 r.1))

/-- KDEC c (R144): the plaintext goes to the response, not to OUT. -/
def execKdec (c : Byte) (s : State) : Result :=
  if s.role ≠ .none then .next (s.raise .badState)
  else
    let r := decByte s.keys c
    .next ((s.setKeys r.2).respond (zext32 r.1))

end Sys2Proof.Machine
end

