-- ==== Sys2Proof/Machine/Session.lean ====
section
/-! DEFINITION. The session and metadata commands PWB, CLOSE, MFLAGS, MTIME_LO, MTIME_HI, MCRC0 to MCRC3 and RDREG
(spec/44_session_and_metadata.md R230 to R239). -/
namespace Sys2Proof.Machine

/-- PWB b (R230): only in the KEYING phase. -/
def execPwb (b : Byte) (s : State) : Result :=
  if s.role = .none ∨ s.hdrCnt ≠ 0#4 then .next (s.raise .badState)
  else .next ((s.setKeys (update s.keys b)).respond 0)

/-- CLOSE (R231): legal in every phase. -/
def execClose (s : State) : Result := .next (s.closeAdapter.respond 0)

/-- MFLAGS f (R232). An operand with a bit of 7:2 set has no legal word: ILLEGAL_CMD, before any other check (R272). -/
def execMflags (f : Byte) (s : State) : Result :=
  if f.extractLsb' 2 6 ≠ 0#6 then .next (s.raise .illegalCmd)
  else if s.role ≠ .none then .next (s.raise .badState)
  else .next ((s.setFlags (flagEnc f) (flagDd f)).respond 0)

/-- MTIME_LO b (R233). -/
def execMtimeLo (b : Byte) (s : State) : Result :=
  if s.role ≠ .none then .next (s.raise .badState)
  else .next ((s.setModtime (setLow16 s.metaModtime b)).respond 0)

/-- MTIME_HI b (R234). -/
def execMtimeHi (b : Byte) (s : State) : Result :=
  if s.role ≠ .none then .next (s.raise .badState)
  else .next ((s.setModtime (setHigh16 s.metaModtime b)).respond 0)

/-- MCRC0 b (R235). -/
def execMcrc0 (b : Byte) (s : State) : Result :=
  if s.role ≠ .none then .next (s.raise .badState)
  else .next ((s.setCrc (setByte0 s.metaCrc b)).respond 0)

/-- MCRC1 b (R236). -/
def execMcrc1 (b : Byte) (s : State) : Result :=
  if s.role ≠ .none then .next (s.raise .badState)
  else .next ((s.setCrc (setByte1 s.metaCrc b)).respond 0)

/-- MCRC2 b (R237). -/
def execMcrc2 (b : Byte) (s : State) : Result :=
  if s.role ≠ .none then .next (s.raise .badState)
  else .next ((s.setCrc (setByte2 s.metaCrc b)).respond 0)

/-- MCRC3 b (R238). -/
def execMcrc3 (b : Byte) (s : State) : Result :=
  if s.role ≠ .none then .next (s.raise .badState)
  else .next ((s.setCrc (setByte3 s.metaCrc b)).respond 0)

/-- RDREG i (R239). An index above 5 names nothing: ILLEGAL_CMD (R71, R272). -/
def execRdreg (i : Byte) (s : State) : Result :=
  match s.readReg i with
  | some v => .next (s.respond v)
  | none => .next (s.raise .illegalCmd)

end Sys2Proof.Machine
end

