-- ==== Sys2Proof/Machine/Dispatch.lean ====
section
/-! DEFINITION. One arm per command of spec/opcode_table.json, each a direct call of its meaning. -/
namespace Sys2Proof.Machine

/-- The effect of one command (spec/30_encoding.md R100: one atomic step). -/
def exec (i : Instr) (s : State) : Host.Outcome State Fault Refusal :=
  match i with
  | .kinit => Sys2Proof.Machine.execKinit s
  | .kupd b => Sys2Proof.Machine.execKupd b s
  | .ksb => Sys2Proof.Machine.execKsb s
  | .kenc p => Sys2Proof.Machine.execKenc p s
  | .kdec c => Sys2Proof.Machine.execKdec c s
  | .openDec => Sys2Proof.Machine.execOpenDec s
  | .openDecNv => Sys2Proof.Machine.execOpenDecNv s
  | .openEnc => Sys2Proof.Machine.execOpenEnc s
  | .pwb b => Sys2Proof.Machine.execPwb b s
  | .dbyte c => Sys2Proof.Machine.execDbyte c s
  | .ebyte p => Sys2Proof.Machine.execEbyte p s
  | .ehdr => Sys2Proof.Machine.execEhdr s
  | .close => Sys2Proof.Machine.execClose s
  | .mflags f => Sys2Proof.Machine.execMflags f s
  | .mtimeLo b => Sys2Proof.Machine.execMtimeLo b s
  | .mtimeHi b => Sys2Proof.Machine.execMtimeHi b s
  | .mcrc0 b => Sys2Proof.Machine.execMcrc0 b s
  | .mcrc1 b => Sys2Proof.Machine.execMcrc1 b s
  | .mcrc2 b => Sys2Proof.Machine.execMcrc2 b s
  | .mcrc3 b => Sys2Proof.Machine.execMcrc3 b s
  | .rdreg n => Sys2Proof.Machine.execRdreg n s

end Sys2Proof.Machine
end

