-- ==== Sys2Proof/Machine/Port.lean ====
section
/-! DEFINITION. The command port and the other host events (spec/20_memory.md R84, R86, spec/30_encoding.md R100, R103,
spec/60_exceptions.md R272, spec/70_reset_and_hazards.md R310, R311). -/
namespace Sys2Proof.Machine

/-- One command word, taken from the port and executed to completion: a word that decode rejects raises ILLEGAL_CMD. -/
def runWord (w : CmdWord) (s : State) : Result :=
  match decode w with
  | .ok i => exec i s
  | .error _ => .next (s.raise .illegalCmd)

/-- One event of the host or the platform. -/
def runEvent (e : HostEvent) (s : State) : Result :=
  match e with
  | .command w => runWord w s
  | .drain n => .next (s.drain n)
  | .reset => .next s.resetEvent
  | .together _ _ => .refused .concurrentCommands

/-- The next event of the host's list; with none pending the block waits and nothing changes (R284, R289, R311). -/
def runNext (s : State) : Result :=
  match s.host with
  | [] => .next s
  | e :: rest => runEvent e { s with host := rest }

/-- `s` with the word `w` presented next. -/
def State.present (s : State) (w : CmdWord) : State := { s with host := .command w :: s.host }

end Sys2Proof.Machine
end

