-- ==== Sys2Proof/Machine/Assembler.lean ====
section
/-! DEFINITION. The assembler of spec/30_encoding.md: the lines of R107 and the pseudo-instructions of R108. A host tool,
not part of the block: it reads one line of text, as a list of characters, and answers its command words. The lexical
details R107 does not give are the model's (log entry 8). -/
namespace Sys2Proof.Machine

/-- Why the assembler refuses a line (R107). -/
inductive AsmError where
  /-- No command has this mnemonic. -/
  | unknownMnemonic
  /-- An operand where none belongs, none where one belongs, or more than one. -/
  | operandCount
  /-- The operand is not of a form R107 gives for the command. -/
  | badOperand
  /-- The operand is out of range for its class: the word would be illegal (R103). -/
  | outOfRange
  deriving DecidableEq, Repr

/-- The single quote of a character operand. -/
def quoteChar : Char := Char.ofNat 39

/-- A finished token joined to the ones after it; an empty one is dropped. The token is held back to front. -/
def flushToken (acc : List Char) (rest : List (List Char)) : List (List Char) :=
  if acc = [] then rest else acc.reverse :: rest

/-- The double quote of a string operand. -/
def stringChar : Char := Char.ofNat 34

/-- The tokens of a line: cut at spaces and tabs, a comma a token of its own, a quoted character kept whole, the rest
dropped from a `;` on. -/
def tokenize : List Char → List Char → List (List Char)
  | [], acc => flushToken acc []
  | a :: b :: c :: rest, acc =>
    if a = quoteChar ∧ c = quoteChar ∧ acc = [] then [a, b, c] :: tokenize rest []
    else if a = ';' then flushToken acc []
    else if a = ' ' ∨ a = '\t' then flushToken acc (tokenize (b :: c :: rest) [])
    else if a = ',' then flushToken acc ([','] :: tokenize (b :: c :: rest) [])
    else tokenize (b :: c :: rest) (a :: acc)
  | a :: rest, acc =>
    if a = ';' then flushToken acc []
    else if a = ' ' ∨ a = '\t' then flushToken acc (tokenize rest [])
    else if a = ',' then flushToken acc ([','] :: tokenize rest [])
    else tokenize rest (a :: acc)

/-- The value of a digit of a hexadecimal number. -/
def hexDigit (c : Char) : Option Nat :=
  let n := c.toNat
  if 48 ≤ n ∧ n ≤ 57 then some (n - 48)
  else if 65 ≤ n ∧ n ≤ 70 then some (n - 55)
  else if 97 ≤ n ∧ n ≤ 102 then some (n - 87)
  else none

/-- Digits of base `b`, most significant first, onto a value already read. -/
def readDigits (b : Nat) : Nat → List Char → Option Nat
  | v, [] => some v
  | v, c :: cs =>
    match hexDigit c with
    | some d => if d < b then readDigits b (v * b + d) cs else none
    | none => none

/-- A number: `0x` and hexadecimal digits, or decimal digits (R107, R19). -/
def readNumber : List Char → Option Nat
  | [] => none
  | '0' :: 'x' :: [] => none
  | '0' :: 'x' :: ds => readDigits 16 0 ds
  | ds => readDigits 10 0 ds

/-- A number that must be at most `max`. -/
def readBounded (max : Nat) (t : List Char) : Except AsmError Nat :=
  match readNumber t with
  | some n => if n ≤ max then .ok n else .error .outOfRange
  | none => .error .badOperand

/-- A byte that must be at most `max`. -/
def readUpTo (max : Nat) (t : List Char) : Except AsmError Byte :=
  (readBounded max t).map (BitVec.ofNat 8)

/-- An `imm8` operand: a number 0 to 255 or a quoted ASCII character. -/
def readImm8 (t : List Char) : Except AsmError Byte :=
  match t with
  | [a, c, b] =>
    if a = quoteChar ∧ b = quoteChar then
      if c.toNat < 128 then .ok (BitVec.ofNat 8 c.toNat) else .error .badOperand
    else readUpTo 255 t
  | _ => readUpTo 255 t

/-- The MFLAGS operand: a number 0 to 3, or `enc`, `dd`, `enc|dd`. -/
def readFlags (t : List Char) : Except AsmError Byte :=
  if t = ['e', 'n', 'c'] then .ok 1#8
  else if t = ['d', 'd'] then .ok 2#8
  else if t = ['e', 'n', 'c', '|', 'd', 'd'] then .ok 3#8
  else readUpTo 3 t

/-- The RDREG operand: a number 0 to 5 or a register's name. -/
def readIndex (t : List Char) : Except AsmError Byte :=
  if t = ['K', '0'] then .ok 0#8
  else if t = ['K', '1'] then .ok 1#8
  else if t = ['K', '2'] then .ok 2#8
  else if t = ['S', 'T', 'A', 'T', 'U', 'S'] then .ok 3#8
  else if t = ['M', 'E', 'T', 'A'] then .ok 4#8
  else if t = ['M', 'E', 'T', 'A', '_', 'C', 'R', 'C'] then .ok 5#8
  else readUpTo 5 t

/-- How a mnemonic reads its operand. -/
inductive AsmForm where
  | zero (i : Instr)
  | imm8 (f : Byte → Instr)
  | flags
  | index

/-- The mnemonics of R102. -/
def mnemonics : List (List Char × AsmForm) :=
  [(['K', 'I', 'N', 'I', 'T'], .zero .kinit),
   (['K', 'U', 'P', 'D'], .imm8 .kupd),
   (['K', 'S', 'B'], .zero .ksb),
   (['K', 'E', 'N', 'C'], .imm8 .kenc),
   (['K', 'D', 'E', 'C'], .imm8 .kdec),
   (['O', 'P', 'E', 'N', '_', 'D', 'E', 'C'], .zero .openDec),
   (['O', 'P', 'E', 'N', '_', 'D', 'E', 'C', '_', 'N', 'V'], .zero .openDecNv),
   (['O', 'P', 'E', 'N', '_', 'E', 'N', 'C'], .zero .openEnc),
   (['P', 'W', 'B'], .imm8 .pwb),
   (['D', 'B', 'Y', 'T', 'E'], .imm8 .dbyte),
   (['E', 'B', 'Y', 'T', 'E'], .imm8 .ebyte),
   (['E', 'H', 'D', 'R'], .zero .ehdr),
   (['C', 'L', 'O', 'S', 'E'], .zero .close),
   (['M', 'F', 'L', 'A', 'G', 'S'], .flags),
   (['M', 'T', 'I', 'M', 'E', '_', 'L', 'O'], .imm8 .mtimeLo),
   (['M', 'T', 'I', 'M', 'E', '_', 'H', 'I'], .imm8 .mtimeHi),
   (['M', 'C', 'R', 'C', '0'], .imm8 .mcrc0),
   (['M', 'C', 'R', 'C', '1'], .imm8 .mcrc1),
   (['M', 'C', 'R', 'C', '2'], .imm8 .mcrc2),
   (['M', 'C', 'R', 'C', '3'], .imm8 .mcrc3),
   (['R', 'D', 'R', 'E', 'G'], .index)]

/-- The command of a mnemonic and its operand tokens. -/
def assembleCommand (f : AsmForm) (operands : List (List Char)) : Except AsmError Instr :=
  match f, operands with
  | .zero i, [] => .ok i
  | .imm8 g, [t] => (readImm8 t).map g
  | .flags, [t] => (readFlags t).map .mflags
  | .index, [t] => (readIndex t).map .rdreg
  | _, _ => .error .operandCount

/-- One line (R107): its command word, or none for a line with no command. -/
def assembleLine (line : List Char) : Except AsmError (Option CmdWord) :=
  match tokenize line [] with
  | [] => .ok none
  | m :: operands =>
    match mnemonics.find? (fun row => row.1 == m) with
    | some row => (assembleCommand row.2 operands).map fun i => some (encode i)
    | none => .error .unknownMnemonic

/-- The pseudo-instructions of R108. -/
inductive Pseudo where
  | kinitPw (s : List Byte)
  | password (s : List Byte)
  | mload (enc dd : Bool) (t : BitVec 16) (c : BitVec 32)
  | decrypt (bs : List Byte)
  | encrypt (bs : List Byte)
  | rdkeys
  deriving DecidableEq, Repr

/-- The expansion of a pseudo-instruction, in order (R108). R108 is silent on DECRYPT with no byte. DESIGN CHOICE (log entry
8): it expands to no command, as PASSWORD of the empty string does. -/
def expand : Pseudo → List Instr
  | .kinitPw s => .kinit :: s.map .kupd
  | .password s => s.map .pwb
  | .mload enc dd t c =>
    [.mflags (0#6 ++ BitVec.ofBool dd ++ BitVec.ofBool enc),
     .mtimeLo (t.extractLsb' 0 8), .mtimeHi (t.extractLsb' 8 8),
     .mcrc0 (c.extractLsb' 0 8), .mcrc1 (c.extractLsb' 8 8), .mcrc2 (c.extractLsb' 16 8), .mcrc3 (c.extractLsb' 24 8)]
  | .decrypt bs => bs.map .dbyte
  | .encrypt [] => [.ehdr]
  | .encrypt (b :: bs) => .ebyte b :: bs.map .ebyte
  | .rdkeys => [.rdreg 0#8, .rdreg 1#8, .rdreg 2#8]

/-- A space or a tab. -/
def isBlank (c : Char) : Bool := c == ' ' || c == '\t'

/-- Nothing but blanks and a comment is left of the line. -/
def lineIsOver (cs : List Char) : Bool :=
  match cs.dropWhile isBlank with
  | [] => true
  | c :: _ => c == ';'

/-- The ASCII bytes up to the closing double quote, and what follows it. -/
def readQuoted : List Char → Option (List Byte × List Char)
  | [] => none
  | c :: cs =>
    if c = stringChar then some ([], cs)
    else if c.toNat < 128 then (readQuoted cs).map fun r => (BitVec.ofNat 8 c.toNat :: r.1, r.2)
    else none

/-- The one string operand of KINITPW and PASSWORD: ASCII codes, no terminator (R19). -/
def readString (rest : List Char) : Except AsmError (List Byte) :=
  match rest.dropWhile isBlank with
  | [] => .error .operandCount
  | c :: cs =>
    if c = stringChar then
      match readQuoted cs with
      | some (bs, more) => if lineIsOver more then .ok bs else .error .operandCount
      | none => .error .badOperand
    else .error .badOperand

/-- Operands with one comma between each two. -/
def splitCommas : List (List Char) → Except AsmError (List (List Char))
  | [] => .ok []
  | [t] => if t = [','] then .error .badOperand else .ok [t]
  | t :: c :: rest =>
    if t = [','] ∨ c ≠ [','] ∨ rest = [] then .error .badOperand
    else (splitCommas rest).map fun ts => t :: ts

/-- The bytes of DECRYPT and ENCRYPT. -/
def readBytes : List (List Char) → Except AsmError (List Byte)
  | [] => .ok []
  | t :: ts =>
    match readImm8 t, readBytes ts with
    | .ok b, .ok bs => .ok (b :: bs)
    | .error e, _ => .error e
    | _, .error e => .error e

/-- The four operands of MLOAD. R108 gives them no DATA class or text form. DESIGN CHOICE (log entry 8): `enc` and `dd` are the
numbers 0 and 1 and no words, `t` and `c` are numbers, and a value above 1, 0xFFFF or 0xFFFFFFFF is refused, not cut. -/
def readMload : List (List Char) → Except AsmError Pseudo
  | [e, d, t, c] =>
    match readBounded 1 e, readBounded 1 d, readBounded 0xFFFF t, readBounded 0xFFFFFFFF c with
    | .ok e, .ok d, .ok t, .ok c => .ok (.mload (e == 1) (d == 1) (BitVec.ofNat 16 t) (BitVec.ofNat 32 c))
    | .error x, _, _, _ => .error x
    | _, .error x, _, _ => .error x
    | _, _, .error x, _ => .error x
    | _, _, _, .error x => .error x
  | _ => .error .operandCount

/-- A line with a pseudo-instruction of R108: none where its mnemonic `m` is not one. -/
def readPseudo (m rest : List Char) : Option (Except AsmError Pseudo) :=
  let operands := splitCommas (tokenize rest [])
  if m = ['K', 'I', 'N', 'I', 'T', 'P', 'W'] then some ((readString rest).map .kinitPw)
  else if m = ['P', 'A', 'S', 'S', 'W', 'O', 'R', 'D'] then some ((readString rest).map .password)
  else if m = ['M', 'L', 'O', 'A', 'D'] then some (operands.bind readMload)
  else if m = ['D', 'E', 'C', 'R', 'Y', 'P', 'T'] then some ((operands.bind readBytes).map .decrypt)
  else if m = ['E', 'N', 'C', 'R', 'Y', 'P', 'T'] then some ((operands.bind readBytes).map .encrypt)
  else if m = ['R', 'D', 'K', 'E', 'Y', 'S'] then
    some (if lineIsOver rest then .ok .rdkeys else .error .operandCount)
  else none

/-- One line of a program: the words of its command or of its pseudo-instruction's expansion, in order. -/
def assembleSource (line : List Char) : Except AsmError (List CmdWord) :=
  let text := line.dropWhile isBlank
  let isMnemonic := fun c => ! isBlank c && c != ';'
  match readPseudo (text.takeWhile isMnemonic) (text.dropWhile isMnemonic) with
  | some p => p.map fun p => (expand p).map encode
  | none => (assembleLine line).map Option.toList

end Sys2Proof.Machine
end

