-- ==== Sys2Proof/Machine/Platform.lean ====
section
/-! DEFINITION. A platform of several engines (spec/60_exceptions.md R290): each has all the state of one engine, its own
command port, response, OUT and entropy input; they share only the constant ROM. -/
namespace Sys2Proof.Machine

/-- The engines of a platform, in a fixed order of the model's. -/
abbrev Platform := List State

/-- N_ENGINES engines right after reset, each wired to an entropy input of its own. -/
def platformReset : Platform :=
  (List.range Config.nEngines).map fun n => { State.reset with entropyPort := n }

/-- One step of the engine at place `n`, none where the platform has no such engine. -/
def stepEngine (p : Platform) (n : Nat) : Option (Host.Outcome Platform Fault Refusal) :=
  match p[n]? with
  | none => none
  | some s =>
    match step s with
    | .next t => some (.next (p.set n t))
    | .fault r => some (.fault r)
    | .refused r => some (.refused r)

end Sys2Proof.Machine
end

