-- ==== Sys2Proof/Machine/Run.lean ====
section
/-! DEFINITION. A run (spec/70_reset_and_hazards.md R315, spec/20_memory.md R78): a finite list of commands applied one by
one, the left fold of the command rules. -/
namespace Sys2Proof.Machine

/-- What a run yields (R315): the responses in order and the final state, whose `out` is the final OUT. -/
structure RunYield where
  responses : List Response
  final     : State
  deriving DecidableEq, Repr

/-- Go on from a next state, stop at a stop. -/
def andThen {α β : Type} (o : Host.Outcome α Fault Refusal) (f : α → Host.Outcome β Fault Refusal) :
    Host.Outcome β Fault Refusal :=
  match o with
  | .next a => f a
  | .fault r => .fault r
  | .refused r => .refused r

/-- A run of `xs`, each element applied by `f`. -/
def runWith {α : Type} (f : α → State → Result) : List α → State → Host.Outcome RunYield Fault Refusal
  | [], s => .next ⟨[], s⟩
  | x :: xs, s =>
    andThen (f x s) fun t =>
      andThen (runWith f xs t) fun y => .next ⟨t.resp :: y.responses, y.final⟩

/-- A run of commands. -/
def run (is : List Instr) (s : State) : Host.Outcome RunYield Fault Refusal := runWith exec is s

/-- A run of command words, illegal ones among them. -/
def runWords (ws : List CmdWord) (s : State) : Host.Outcome RunYield Fault Refusal := runWith runWord ws s

end Sys2Proof.Machine
end

