-- ==== Sys2Proof/Safety.lean ====
section
/-! DEFINITION. The terms the claims use: the invariants of spec/10_state.md R45 (with the bounds of U9 and R271), the
phase table of spec/60_exceptions.md R273, and what a fault leaves (R270, R280). -/
namespace Sys2Proof.Machine

/-- The invariants (a) to (d) of R45; (e), ROLE is never 3, holds of the type `Role`. -/
abbrev State.Inv (s : State) : Prop :=
  s.hdrCnt ≤ 12#4 ∧
  (s.role = .none → s.hdrCnt = 0#4 ∧ s.verify = false ∧ s.dead = false) ∧
  (s.role = .enc → s.verify = false ∧ s.dead = false ∧ (s.hdrCnt = 0#4 ∨ s.hdrCnt = 12#4)) ∧
  (s.dead = true → s.role = .dec ∧ s.verify = true ∧ s.hdrCnt = 12#4)

/-- No reserved fault code is held or reported (R271, U9). -/
abbrev State.CodesInRange (s : State) : Prop := s.stickyErr ≤ 6#4 ∧ s.resp.status ≤ 6#4

/-- A state after a command that faulted with `code` and did nothing else: the response carries the code and data 0
(R270), and STICKY_ERR has taken the code if it was 0 (R280). -/
def State.faulted (s : State) (code : BitVec 4) : State :=
  { s with
    stickyErr := if s.stickyErr = 0#4 then code else s.stickyErr
    resp := ⟨code, 0x00000000#32⟩ }

/-- The eleven salt bytes the next header generation takes (R201), byte by byte: the entropy port's listed bytes first, the
free values of ENTROPY after them (R73, R14). -/
def State.salt (s : State) : List Byte :=
  (List.range 11).map fun j =>
    (s.entropy[j]?).getD (Config.entropy s.entropyPort (s.draws + (j - s.entropy.length)))

/-- The state after the header generation of R201 from `s`: twelve header bytes `salt ++ [VBYTE]` encrypted in order. -/
def State.afterHeader (s : State) : State :=
  { s with
    keys := (encBytes s.keys (s.salt ++ [s.vbyte])).2
    out := s.out ++ (encBytes s.keys (s.salt ++ [s.vbyte])).1
    hdrCnt := 12#4
    entropy := s.entropy.drop 11
    draws := s.draws + (11 - s.entropy.length) }

/-- The metadata two streams share (R204: "the same E"). -/
abbrev SameMeta (s t : State) : Prop :=
  s.metaEnc = t.metaEnc ∧ s.metaDd = t.metaDd ∧ s.metaModtime = t.metaModtime ∧ s.metaCrc = t.metaCrc

/-- An entry of the legality table of R273. -/
inductive Legality where
  | ok
  | badState
  | adapterDead
  deriving DecidableEq, Repr

/-- The legality table of R273: rows by command, columns by ROLE and phase. -/
def legality (i : Instr) (r : Role) (p : Phase) : Legality :=
  match i with
  | .kinit | .kupd _ | .ksb | .kenc _ | .kdec _ | .openDec | .openDecNv | .openEnc | .mflags _ | .mtimeLo _ | .mtimeHi _
  | .mcrc0 _ | .mcrc1 _ | .mcrc2 _ | .mcrc3 _ => if p = .raw then .ok else .badState
  | .pwb _ => if p = .keying then .ok else .badState
  | .dbyte _ =>
    match r, p with
    | .dec, .keying => .ok
    | .dec, .header => .ok
    | .dec, .payload => .ok
    | .dec, .dead => .adapterDead
    | _, _ => .badState
  | .ebyte _ | .ehdr =>
    match r, p with
    | .enc, .keying => .ok
    | .enc, .payload => .ok
    | _, _ => .badState
  | .close | .rdreg _ => .ok

/-- The command word of an opcode and a DATA byte (R100). -/
def cmdWord (op d : Byte) : CmdWord := op ++ d

/-- The status R279 gives a command word: the first condition that holds, in its order. -/
def expectedStatus (w : CmdWord) (s : State) : BitVec 4 :=
  match decode w with
  | .error _ => 1#4
  | .ok i =>
    if legality i s.role s.phase = .badState then 2#4
    else if legality i s.role s.phase = .adapterDead then 3#4
    else
      match i with
      | .openDec => if s.metaEnc then 0#4 else 4#4
      | .openEnc => if s.metaEnc then 0#4 else 5#4
      | .dbyte c =>
        if s.hdrCnt = 11#4 ∧ s.verify = true ∧ (decByte s.keys c).1 ≠ s.vbyte then 6#4 else 0#4
      | _ => 0#4

/-- RESP_DATA of a command that ends OK (R106). -/
def okData (i : Instr) (s : State) : Word :=
  match i with
  | .ksb => zext32 (ksByte s.keys.k2)
  | .kenc p => zext32 (encByte s.keys p).1
  | .kdec c => zext32 (decByte s.keys c).1
  | .rdreg n => (s.readReg n).getD 0#32
  | _ => 0#32

/-- The commands that load metadata (R40 to R43). -/
def loadsMeta : Instr → Bool
  | .mflags _ | .mtimeLo _ | .mtimeHi _ | .mcrc0 _ | .mcrc1 _ | .mcrc2 _ | .mcrc3 _ => true
  | _ => false

/-- The commands R32 names as writers of the key registers. -/
def writesKeys : Instr → Bool
  | .kinit | .openDec | .openDecNv | .openEnc | .kupd _ | .kenc _ | .kdec _ | .pwb _ | .dbyte _ | .ebyte _ | .ehdr => true
  | _ => false

/-- A command generates the encrypt header (R201, R202, R203). -/
def makesHeader (i : Instr) (s : State) : Bool :=
  match i with
  | .ebyte _ | .ehdr => decide (s.role = .enc ∧ s.dead = false ∧ s.hdrCnt < 12#4)
  | _ => false

/-- How many bytes a command emits (R72, R76). -/
def emitCount (i : Instr) (s : State) : Nat :=
  match i with
  | .dbyte _ => if s.role = .dec ∧ s.dead = false ∧ ¬ s.hdrCnt < 12#4 then 1 else 0
  | .ebyte p => if s.role = .enc ∧ s.dead = false then (if makesHeader (.ebyte p) s then 13 else 1) else 0
  | .ehdr => if makesHeader .ehdr s then 12 else 0
  | _ => 0

/-- The states a run can reach: from reset, with any events of the host, any entropy and any entropy input, by steps. -/
inductive Reachable : State → Prop where
  | reset (entropy : List Byte) (port draws : Nat) (host : List HostEvent) :
      Reachable { State.reset with entropy := entropy, entropyPort := port, draws := draws, host := host }
  | step (s t : State) (hs : Reachable s) (h : Sys2Proof.Machine.step s = .next t) : Reachable t

end Sys2Proof.Machine
end

