-- ==== Sys2Proof/Certificates/Slice0/Obligations.lean ====
section
/-! DEFINITION. The statements for the provers, from the numbered rules of spec/. A next state written out as a record is
also its command's frame: every field the record does not name is unchanged, OUT, the entropy port and the host's list
among them. -/

open Sys2Proof Sys2Proof.Machine

/-! ### Encoding -/

/-- Words written out from the table of 30_encoding.md section 2, at least one per family. -/
def Obligations.SampleWordsDecode : Prop :=
  decode 0x0100#16 = .ok .kinit ∧ decode 0x0270#16 = .ok (.kupd 0x70#8) ∧ decode 0x05AB#16 = .ok (.kdec 0xAB#8) ∧
  decode 0x1000#16 = .ok .openDec ∧ decode 0x14C8#16 = .ok (.dbyte 0xC8#8) ∧ decode 0x1200#16 = .ok .openEnc ∧
  decode 0x1568#16 = .ok (.ebyte 0x68#8) ∧ decode 0x1373#16 = .ok (.pwb 0x73#8) ∧
  decode 0x2003#16 = .ok (.mflags 0x03#8) ∧ decode 0x26AA#16 = .ok (.mcrc3 0xAA#8) ∧
  decode 0x3005#16 = .ok (.rdreg 0x05#8) ∧
  decode 0x0000#16 = .error .unassignedOpcode ∧ decode 0x0101#16 = .error .nonZeroData ∧
  decode 0x2004#16 = .error .flagsReserved ∧ decode 0x3006#16 = .error .indexOutOfRange

/-- Every well-formed command, with every operand, is what the decoder reads from its word. -/
def Obligations.EncodeThenDecode : Prop :=
  ∀ i : Instr, i.WellFormed → decode (encode i) = .ok i

/-- The other direction: a word the decoder accepts is the word of the one command it gives, and that command is well
formed (so no two commands share a word). -/
def Obligations.DecodeThenEncode : Prop :=
  ∀ (w : CmdWord) (i : Instr), decode w = .ok i → encode i = w ∧ i.WellFormed

/-- R103's decoder as conditions on the two bytes of the word, each rejection by its own name in the order of the rule. -/
def Obligations.DecodeChecksInOrder : Prop :=
  ∀ op d : Byte,
    let assigned : Prop := op.toNat ∈ [0x01, 0x02, 0x03, 0x04, 0x05, 0x10, 0x11, 0x12, 0x13, 0x14, 0x15, 0x16, 0x17,
      0x20, 0x21, 0x22, 0x23, 0x24, 0x25, 0x26, 0x30]
    let zeroOp : Prop := op.toNat ∈ [0x01, 0x03, 0x10, 0x11, 0x12, 0x16, 0x17]
    (¬ assigned → decode (cmdWord op d) = .error .unassignedOpcode) ∧
    (zeroOp → d ≠ 0x00#8 → decode (cmdWord op d) = .error .nonZeroData) ∧
    (op = 0x20#8 → 4 ≤ d.toNat → decode (cmdWord op d) = .error .flagsReserved) ∧
    (op = 0x30#8 → 5 < d.toNat → decode (cmdWord op d) = .error .indexOutOfRange) ∧
    (assigned → (zeroOp → d = 0x00#8) → (op = 0x20#8 → d.toNat < 4) → (op = 0x30#8 → d.toNat ≤ 5) →
      ∃ i, decode (cmdWord op d) = .ok i ∧ opcodeOf i = op ∧ dataOf i = d)

/-! ### The pure functions -/

/-- The ROM's table of R81 is the generator's of R82, at all 256 indices ("the two agree on all 256 entries"; the spec marks
both as taken from general knowledge, log entry 7). -/
def Obligations.LutMatchesGenerator : Prop := ∀ i : Byte, lut i = lutGen i

/-- The check value of CRC-32/IEEE and the four spot values of R83 (marked by the spec as from general knowledge, log entry
7). -/
def Obligations.LutSelfCheck : Prop :=
  crc32 [0x31#8, 0x32#8, 0x33#8, 0x34#8, 0x35#8, 0x36#8, 0x37#8, 0x38#8, 0x39#8] = 0xCBF43926#32 ∧
  lut 0x00#8 = 0x00000000#32 ∧ lut 0x01#8 = 0x77073096#32 ∧ lut 0x80#8 = 0xEDB88320#32 ∧ lut 0xFF#8 = 0x2D02EF8D#32

/-- The recurrence of R131 and R132 (with the order of R133): the K0 and K2 steps on bit vectors, the K1 step on natural numbers modulo 2^32,
each step from the new value of the one before; the worked example, which the spec marks as its own derivation. -/
def Obligations.UpdateRecurrence : Prop :=
  (∀ (k : Keys) (b : Byte),
    let k' := update k b
    k'.k0 = lut (((k.k0 ^^^ b.zeroExtend 32) &&& 0xFF#32).truncate 8) ^^^ (k.k0 >>> 8) ∧
    k'.k1.toNat = ((k.k1.toNat + k'.k0.toNat % 256) * 134775813 + 1) % 2 ^ 32 ∧
    k'.k2 = lut (((k.k2 ^^^ (k'.k1 >>> 24)) &&& 0xFF#32).truncate 8) ^^^ (k.k2 >>> 8)) ∧
  update ⟨0x12345678#32, 0x23456789#32, 0x34567890#32⟩ 0x70#8 = ⟨0x0EC9BC64#32, 0x21593BA2#32, 0xBC52D562#32⟩

/-- The keystream byte of R134 on natural numbers, with the product modulo 2^32 and with the full one (the equality of the two
and the worked example are derivations of the spec's own). -/
def Obligations.KeystreamByteFormula : Prop :=
  (∀ k2 : Word,
    (ksByte k2).toNat = ((k2 ||| 2#32).toNat * ((k2 ||| 2#32) ^^^ 1#32).toNat) % 2 ^ 32 / 256 % 256 ∧
    (ksByte k2).toNat = ((k2 ||| 2#32).toNat * ((k2 ||| 2#32) ^^^ 1#32).toNat) / 256 % 256) ∧
  ksByte 0x34567890#32 = 0xAB#8

/-- What the keystream byte does not depend on, and where it is zero: R135, which the spec marks as derived from R134. -/
def Obligations.KeystreamByteSymmetries : Prop :=
  (∀ k2 : Word, ksByte k2 = ksByte (k2 ^^^ 0x1#32) ∧ ksByte k2 = ksByte (k2 ^^^ 0x2#32) ∧
    ksByte k2 = ksByte (k2 &&& 0xFFFF#32)) ∧
  (∀ a b : Word, a.extractLsb' 2 14 = b.extractLsb' 2 14 → ksByte a = ksByte b) ∧
  (∀ k2 : Word, k2.extractLsb' 2 14 = 0#14 ∨ k2.extractLsb' 2 14 = 0x3FFF#14 → ksByte k2 = 0x00#8)

/-- R136: INIT of the empty password, of one more byte, and the golden vector "password" (its value is the spec's own
derivation). -/
def Obligations.PasswordInitialisation : Prop :=
  initKeys [] = ⟨0x12345678#32, 0x23456789#32, 0x34567890#32⟩ ∧
  (∀ (pw : List Byte) (b : Byte), initKeys (pw ++ [b]) = update (initKeys pw) b) ∧
  initKeys [0x70#8, 0x61#8, 0x73#8, 0x73#8, 0x77#8, 0x6F#8, 0x72#8, 0x64#8] =
    ⟨0xEA9B4E4D#32, 0xBA789085#32, 0x5FF8707D#32⟩

/-- Decryption inverts encryption, byte by byte and over a sequence, and the keys stay equal: R139, which the spec marks as
derived from R137 and R138. -/
def Obligations.DecryptInvertsEncrypt : Prop :=
  (∀ (k k' : Keys) (p c : Byte), encByte k p = (c, k') → decByte k c = (p, k')) ∧
  (∀ (k k' : Keys) (ps cs : List Byte), encBytes k ps = (cs, k') → decBytes k cs = (ps, k'))

/-- R170: the verification byte, and the examples of the rule. -/
def Obligations.VerificationByte : Prop :=
  (∀ s : State, s.metaDd = true → s.vbyte.toNat = s.metaModtime.toNat / 256) ∧
  (∀ s : State, s.metaDd = false → s.vbyte.toNat = s.metaCrc.toNat / 2 ^ 24) ∧
  (∀ s t : State, s.metaDd = t.metaDd → s.metaModtime = t.metaModtime → s.metaCrc = t.metaCrc → s.vbyte = t.vbyte) ∧
  (∀ s : State, s.metaDd = true → s.metaModtime = 0x1234#16 → s.vbyte = 0x12#8) ∧
  (∀ s : State, s.metaDd = false → s.metaCrc = 0xAABBCCDD#32 → s.vbyte = 0xAA#8)

/-! ### KeyState commands -/

/-- R140, KINIT. -/
def Obligations.KinitRule : Prop :=
  decode 0x0100#16 = .ok .kinit ∧
  (∀ s : State, s.role = .none →
    exec .kinit s = .next { s with keys := ⟨0x12345678#32, 0x23456789#32, 0x34567890#32⟩, resp := ⟨0#4, 0#32⟩ }) ∧
  (∀ s : State, s.role ≠ .none → exec .kinit s = .next (s.faulted 2#4)) ∧
  (∀ (s : State) (d : Byte), d ≠ 0x00#8 → runWord (cmdWord 0x01#8 d) s = .next (s.faulted 1#4)) ∧
  initKeys [] = ⟨0x12345678#32, 0x23456789#32, 0x34567890#32⟩ ∧
  (∀ s : State, s.role = .none →
    ∃ t u, exec .kinit s = .next t ∧ exec .ksb t = .next u ∧ u.resp = ⟨0#4, 0xAB#32⟩)

/-- R141, KUPD. Its corner case, from (0x000000FF, 0xFFFFFFFF, 0), and its example (R132's) are derivations of the spec's
own. -/
def Obligations.KupdRule : Prop :=
  (∀ b : Byte, decode (cmdWord 0x02#8 b) = .ok (.kupd b)) ∧
  (∀ (s : State) (b : Byte), s.role = .none →
    exec (.kupd b) s = .next { s with keys := update s.keys b, resp := ⟨0#4, 0#32⟩ }) ∧
  (∀ (s : State) (b : Byte), s.role ≠ .none → exec (.kupd b) s = .next (s.faulted 2#4)) ∧
  update ⟨0x000000FF#32, 0xFFFFFFFF#32, 0#32⟩ 0x00#8 = ⟨0x2D02EF8D#32, 0x64A832BD#32, 0x4ADFA541#32⟩ ∧
  update State.reset.keys 0x70#8 = ⟨0x0EC9BC64#32, 0x21593BA2#32, 0xBC52D562#32⟩

/-- R142, KSB: nothing is written but the response, so a second KSB returns the same byte. -/
def Obligations.KsbRule : Prop :=
  decode 0x0300#16 = .ok .ksb ∧
  (∀ s : State, s.role = .none →
    exec .ksb s = .next { s with resp := ⟨0#4, (ksByte s.keys.k2).zeroExtend 32⟩ }) ∧
  (∀ s : State, s.role ≠ .none → exec .ksb s = .next (s.faulted 2#4)) ∧
  (∀ (s : State) (d : Byte), d ≠ 0x00#8 → runWord (cmdWord 0x03#8 d) s = .next (s.faulted 1#4)) ∧
  (∀ s t : State, s.role = .none → exec .ksb s = .next t → exec .ksb t = .next t) ∧
  (∀ s : State, s.role = .none → s.keys = State.reset.keys →
    exec .ksb s = .next { s with resp := ⟨0#4, 0x000000AB#32⟩ })

/-- R143, KENC. -/
def Obligations.KencRule : Prop :=
  (∀ p : Byte, decode (cmdWord 0x04#8 p) = .ok (.kenc p)) ∧
  (∀ (s : State) (p : Byte), s.role = .none →
    exec (.kenc p) s = .next { s with
      keys := update s.keys p
      resp := ⟨0#4, (p ^^^ ksByte s.keys.k2).zeroExtend 32⟩ }) ∧
  (∀ (s : State) (p : Byte), s.role ≠ .none → exec (.kenc p) s = .next (s.faulted 2#4)) ∧
  (∀ s : State, s.role = .none → ∃ t, exec (.kenc (ksByte s.keys.k2)) s = .next t ∧ t.resp = ⟨0#4, 0#32⟩) ∧
  (∃ t, exec (.kenc 0x00#8) State.reset = .next t ∧ t.resp = ⟨0#4, 0x000000AB#32⟩ ∧
    t.keys = ⟨0x5ECCCD58#32, 0xC0F30B66#32, 0x6B5F078C#32⟩)

/-- R144, KDEC: the update folds in the recovered plaintext; KDEC inverts KENC from the same keys. -/
def Obligations.KdecRule : Prop :=
  (∀ c : Byte, decode (cmdWord 0x05#8 c) = .ok (.kdec c)) ∧
  (∀ (s : State) (c : Byte), s.role = .none →
    exec (.kdec c) s = .next { s with
      keys := update s.keys (c ^^^ ksByte s.keys.k2)
      resp := ⟨0#4, (c ^^^ ksByte s.keys.k2).zeroExtend 32⟩ }) ∧
  (∀ (s : State) (c : Byte), s.role ≠ .none → exec (.kdec c) s = .next (s.faulted 2#4)) ∧
  (∀ (s : State) (p : Byte), s.role = .none →
    ∃ t u, exec (.kenc p) s = .next t ∧ exec (.kdec (t.resp.data.truncate 8)) s = .next u ∧
      u.resp = ⟨0#4, p.zeroExtend 32⟩ ∧ u.keys = t.keys) ∧
  (∃ t, exec (.kdec 0xAB#8) State.reset = .next t ∧ t.resp = ⟨0#4, 0x00000000#32⟩ ∧
    t.keys = ⟨0x5ECCCD58#32, 0xC0F30B66#32, 0x6B5F078C#32⟩)

/-! ### Decrypting stream -/

/-- R171, OPEN_DEC. -/
def Obligations.OpenDecRule : Prop :=
  decode 0x1000#16 = .ok .openDec ∧
  (∀ s : State, s.role = .none → s.metaEnc = true →
    exec .openDec s = .next { s with
      keys := ⟨0x12345678#32, 0x23456789#32, 0x34567890#32⟩
      role := .dec, verify := true, hdrCnt := 0#4, dead := false, resp := ⟨0#4, 0#32⟩ }) ∧
  (∀ s : State, s.role ≠ .none → exec .openDec s = .next (s.faulted 2#4)) ∧
  (∀ s : State, s.role = .none → s.metaEnc = false → exec .openDec s = .next (s.faulted 4#4)) ∧
  (∀ (s : State) (d : Byte), d ≠ 0x00#8 → runWord (cmdWord 0x10#8 d) s = .next (s.faulted 1#4)) ∧
  (∀ s t : State, s.role = .none → s.metaEnc = true → s.stickyErr = 0#4 → exec .openDec s = .next t →
    t.status = 0x00000005#32)

/-- R172, OPEN_DEC_NV: whatever the metadata holds. -/
def Obligations.OpenDecNvRule : Prop :=
  decode 0x1100#16 = .ok .openDecNv ∧
  (∀ s : State, s.role = .none →
    exec .openDecNv s = .next { s with
      keys := ⟨0x12345678#32, 0x23456789#32, 0x34567890#32⟩
      role := .dec, verify := false, hdrCnt := 0#4, dead := false, resp := ⟨0#4, 0#32⟩ }) ∧
  (∀ s : State, s.role ≠ .none → exec .openDecNv s = .next (s.faulted 2#4)) ∧
  (∀ (s : State) (d : Byte), d ≠ 0x00#8 → runWord (cmdWord 0x11#8 d) s = .next (s.faulted 1#4)) ∧
  (∀ s t : State, s.role = .none → s.stickyErr = 0#4 → exec .openDecNv s = .next t → t.status = 0x00000001#32)

/-- R173, R174, DBYTE: `p` is the decrypted byte; a header byte is folded in and counted, the 12th checked, a payload byte
emitted. -/
def Obligations.DbyteRule : Prop :=
  (∀ c : Byte, decode (cmdWord 0x14#8 c) = .ok (.dbyte c)) ∧
  (∀ (s : State) (c : Byte), s.role ≠ .dec → exec (.dbyte c) s = .next (s.faulted 2#4)) ∧
  (∀ (s : State) (c : Byte), s.role = .dec → s.dead = true → exec (.dbyte c) s = .next (s.faulted 3#4)) ∧
  (∀ (s : State) (c : Byte), s.role = .dec → s.dead = false →
    let p := c ^^^ ksByte s.keys.k2
    (s.hdrCnt.toNat < 11 ∨ s.hdrCnt.toNat = 11 ∧ (s.verify = false ∨ p = s.vbyte) →
      exec (.dbyte c) s = .next { s with
        keys := update s.keys p, hdrCnt := s.hdrCnt + 1#4, resp := ⟨0#4, 0#32⟩ }) ∧
    (s.hdrCnt.toNat = 11 → s.verify = true → p ≠ s.vbyte →
      exec (.dbyte c) s = .next { s with
        keys := update s.keys p, hdrCnt := 12#4, dead := true
        stickyErr := if s.stickyErr = 0#4 then 6#4 else s.stickyErr
        resp := ⟨6#4, 0#32⟩ }) ∧
    (12 ≤ s.hdrCnt.toNat →
      exec (.dbyte c) s = .next { s with
        keys := update s.keys p, out := s.out ++ [p], resp := ⟨0#4, 0#32⟩ })) ∧
  (∃ t u v w, exec (.dbyte 0xC8#8) { State.reset with
      role := .dec, verify := true, metaEnc := true, metaCrc := 0x12345678#32
      keys := initKeys [0x73#8, 0x65#8, 0x63#8, 0x72#8, 0x65#8, 0x74#8] } = .next t ∧ t.hdrCnt = 1#4 ∧ t.out = [] ∧
    run (expand (.decrypt [0x88#8, 0xC2#8, 0xBF#8, 0x0D#8, 0xE3#8, 0xA4#8, 0x03#8, 0xF4#8, 0x15#8, 0x32#8])) t = .next u ∧
    exec (.dbyte 0xCB#8) u.final = .next v ∧ v.hdrCnt = 12#4 ∧ v.resp = ⟨0#4, 0#32⟩ ∧ v.out = [] ∧
    exec (.dbyte 0x92#8) v = .next w ∧ w.out = [0x68#8])

/-! ### Encrypting stream -/

/-- R200, OPEN_ENC. -/
def Obligations.OpenEncRule : Prop :=
  decode 0x1200#16 = .ok .openEnc ∧
  (∀ s : State, s.role = .none → s.metaEnc = true →
    exec .openEnc s = .next { s with
      keys := ⟨0x12345678#32, 0x23456789#32, 0x34567890#32⟩
      role := .enc, verify := false, hdrCnt := 0#4, dead := false, resp := ⟨0#4, 0#32⟩ }) ∧
  (∀ s : State, s.role ≠ .none → exec .openEnc s = .next (s.faulted 2#4)) ∧
  (∀ s : State, s.role = .none → s.metaEnc = false → exec .openEnc s = .next (s.faulted 5#4)) ∧
  (∀ (s : State) (d : Byte), d ≠ 0x00#8 → runWord (cmdWord 0x12#8 d) s = .next (s.faulted 1#4)) ∧
  (∀ s t : State, s.role = .none → s.metaEnc = true → s.stickyErr = 0#4 → exec .openEnc s = .next t →
    t.status = 0x00000002#32)

/-- R201, the header generation of the first access, in every state of its precondition, and its counts. The salt bytes
past the listed ones are free values (log entry 3): the statement holds for every value of them. -/
def Obligations.HeaderGeneration : Prop :=
  (∀ s : State, s.role = .enc → s.hdrCnt = 0#4 → s.emitHeader = s.afterHeader) ∧
  (∀ s : State, s.salt.length = 11 ∧ s.afterHeader.out.length = s.out.length + 12) ∧
  (∀ s : State, s.afterHeader.keys = updateAll s.keys (s.salt ++ [s.vbyte]))

/-- R202, EBYTE: the header first where it is due, then the byte. R201 requires HDR_CNT = 0 of a header generation: that one
with HDR_CNT between 1 and 11 makes the header too, in states no run reaches, is the model's reading of the pseudocode (log
entry 6). That ROLE = ENC leaves DEAD = 0 is R45 (c), which the spec marks as derived. -/
def Obligations.EbyteRule : Prop :=
  (∀ p : Byte, decode (cmdWord 0x15#8 p) = .ok (.ebyte p)) ∧
  (∀ (s : State) (p : Byte), s.role ≠ .enc → exec (.ebyte p) s = .next (s.faulted 2#4)) ∧
  (∀ (s : State) (p : Byte), s.role = .enc → s.dead = true → exec (.ebyte p) s = .next (s.faulted 3#4)) ∧
  (∀ (s : State) (p : Byte), s.role = .enc → s.dead = false →
    let h := if s.hdrCnt.toNat < 12 then s.afterHeader else s
    exec (.ebyte p) s = .next { h with
      keys := update h.keys p, out := h.out ++ [p ^^^ ksByte h.keys.k2], resp := ⟨0#4, 0#32⟩ }) ∧
  (∀ s : State, s.Inv → s.role = .enc → s.dead = false) ∧
  (∃ t u, exec (.ebyte 0x68#8) { State.reset with
      role := .enc, metaEnc := true, metaCrc := 0x12345678#32
      keys := initKeys [0x73#8, 0x65#8, 0x63#8, 0x72#8, 0x65#8, 0x74#8]
      entropy := [0x00#8, 0x01#8, 0x02#8, 0x03#8, 0x04#8, 0x05#8, 0x06#8, 0x07#8, 0x08#8, 0x09#8, 0x0A#8] } = .next t ∧
    t.out = [0xC8#8, 0x88#8, 0xC2#8, 0xBF#8, 0x0D#8, 0xE3#8, 0xA4#8, 0x03#8, 0xF4#8, 0x15#8, 0x32#8, 0xCB#8, 0x92#8] ∧
    exec (.ebyte 0x69#8) t = .next u ∧ u.out = t.out ++ [0x5E#8])

/-- R203, EHDR: the header where it is due, else nothing. R201 requires HDR_CNT = 0 of a header generation: that one with
HDR_CNT between 1 and 11 makes the header too, in states no run reaches, is the model's reading of the pseudocode (log entry
6). That ROLE = ENC leaves DEAD = 0 is R45 (c), which the spec marks as derived. -/
def Obligations.EhdrRule : Prop :=
  decode 0x1600#16 = .ok .ehdr ∧
  (∀ s : State, s.role ≠ .enc → exec .ehdr s = .next (s.faulted 2#4)) ∧
  (∀ s : State, s.role = .enc → s.dead = true → exec .ehdr s = .next (s.faulted 3#4)) ∧
  (∀ s : State, s.role = .enc → s.dead = false → s.hdrCnt.toNat < 12 →
    exec .ehdr s = .next { s.afterHeader with resp := ⟨0#4, 0#32⟩ }) ∧
  (∀ s : State, s.role = .enc → s.dead = false → 12 ≤ s.hdrCnt.toNat →
    exec .ehdr s = .next { s with resp := ⟨0#4, 0#32⟩ }) ∧
  (∀ (s : State) (d : Byte), d ≠ 0x00#8 → runWord (cmdWord 0x16#8 d) s = .next (s.faulted 1#4)) ∧
  (∀ s : State, s.Inv → s.role = .enc → s.dead = false) ∧
  (∃ t, exec .ehdr { State.reset with
      role := .enc, metaEnc := true, metaCrc := 0x12345678#32
      keys := initKeys [0x73#8, 0x65#8, 0x63#8, 0x72#8, 0x65#8, 0x74#8]
      entropy := [0x00#8, 0x01#8, 0x02#8, 0x03#8, 0x04#8, 0x05#8, 0x06#8, 0x07#8, 0x08#8, 0x09#8, 0x0A#8] } = .next t ∧
    t.out = [0xC8#8, 0x88#8, 0xC2#8, 0xBF#8, 0x0D#8, 0xE3#8, 0xA4#8, 0x03#8, 0xF4#8, 0x15#8, 0x32#8, 0xCB#8] ∧
    exec .ehdr t = .next t)

/-! ### Session and metadata -/

/-- R230, PWB; after an OPEN that ends OK, one PWB per byte of any password leaves the keys at INIT of it (the spec's own
derivation, as the value for "secret" is). -/
def Obligations.PwbRule : Prop :=
  (∀ b : Byte, decode (cmdWord 0x13#8 b) = .ok (.pwb b)) ∧
  (∀ (s : State) (b : Byte), s.role ≠ .none → s.hdrCnt = 0#4 →
    exec (.pwb b) s = .next { s with keys := update s.keys b, resp := ⟨0#4, 0#32⟩ }) ∧
  (∀ (s : State) (b : Byte), s.role = .none ∨ s.hdrCnt ≠ 0#4 → exec (.pwb b) s = .next (s.faulted 2#4)) ∧
  (∀ (i : Instr) (s t : State) (pw : List Byte), i = .openDec ∨ i = .openDecNv ∨ i = .openEnc →
    exec i s = .next t → t.resp.status = 0#4 →
    ∃ y, run (i :: expand (.password pw)) s = .next y ∧ y.final = { t with keys := initKeys pw } ∧
      y.responses = List.replicate (pw.length + 1) ⟨0#4, 0#32⟩) ∧
  initKeys [0x73#8, 0x65#8, 0x63#8, 0x72#8, 0x65#8, 0x74#8] = ⟨0xDDA9E469#32, 0x96212999#32, 0xF9FC9651#32⟩

/-- R136, R108: KINITPW, KINIT followed by one KUPD per byte, leaves the keys at INIT(pw). -/
def Obligations.KinitPasswordIsInit : Prop :=
  ∀ (s : State) (pw : List Byte), s.role = .none →
    ∃ y, run (expand (.kinitPw pw)) s = .next y ∧
      y.final = { s with keys := initKeys pw, resp := ⟨0#4, 0#32⟩ } ∧
      y.responses = List.replicate (pw.length + 1) ⟨0#4, 0#32⟩

/-- R231, CLOSE: in every phase; keys, metadata, STICKY_ERR and OUT kept. -/
def Obligations.CloseRule : Prop :=
  decode 0x1700#16 = .ok .close ∧
  (∀ s : State, exec .close s = .next { s with
    role := .none, verify := false, hdrCnt := 0#4, dead := false, resp := ⟨0#4, 0#32⟩ }) ∧
  (∀ (s : State) (d : Byte), d ≠ 0x00#8 → runWord (cmdWord 0x17#8 d) s = .next (s.faulted 1#4)) ∧
  (∀ s t : State, s.status = 0x000061CD#32 → exec .close s = .next t → t.status = 0x00006000#32)

/-- R232, MFLAGS. -/
def Obligations.MflagsRule : Prop :=
  (∀ f : Byte, f.toNat < 4 → decode (cmdWord 0x20#8 f) = .ok (.mflags f)) ∧
  (∀ (s : State) (f : Byte), f.toNat < 4 → s.role = .none →
    exec (.mflags f) s = .next { s with
      metaEnc := decide (f.toNat % 2 = 1), metaDd := decide (f.toNat / 2 % 2 = 1), resp := ⟨0#4, 0#32⟩ }) ∧
  (∀ (s : State) (f : Byte), f.toNat < 4 → s.role ≠ .none → exec (.mflags f) s = .next (s.faulted 2#4)) ∧
  (∀ (s : State) (f : Byte), 4 ≤ f.toNat →
    exec (.mflags f) s = .next (s.faulted 1#4) ∧ runWord (cmdWord 0x20#8 f) s = .next (s.faulted 1#4)) ∧
  (∀ s : State, s.role = .none → ∃ t, exec (.mflags 0x03#8) s = .next t ∧ t.metaEnc = true ∧ t.metaDd = true ∧
    t.metaWord.getLsbD 16 = true ∧ t.metaWord.getLsbD 17 = true)

/-- R233 and R234, MTIME_LO and MTIME_HI: only the named byte of META_MODTIME changes. -/
def Obligations.MtimeRules : Prop :=
  (∀ b : Byte, decode (cmdWord 0x21#8 b) = .ok (.mtimeLo b) ∧ decode (cmdWord 0x22#8 b) = .ok (.mtimeHi b)) ∧
  (∀ (s : State) (b : Byte), s.role = .none →
    ∃ v : BitVec 16, exec (.mtimeLo b) s = .next { s with metaModtime := v, resp := ⟨0#4, 0#32⟩ } ∧
      v.toNat = s.metaModtime.toNat / 256 * 256 + b.toNat) ∧
  (∀ (s : State) (b : Byte), s.role = .none →
    ∃ v : BitVec 16, exec (.mtimeHi b) s = .next { s with metaModtime := v, resp := ⟨0#4, 0#32⟩ } ∧
      v.toNat = b.toNat * 256 + s.metaModtime.toNat % 256) ∧
  (∀ (s : State) (b : Byte), s.role ≠ .none →
    exec (.mtimeLo b) s = .next (s.faulted 2#4) ∧ exec (.mtimeHi b) s = .next (s.faulted 2#4)) ∧
  (∀ (s t : State) (b : Byte), s.role = .none → exec (.mtimeLo b) s = .next t → t.vbyte = s.vbyte) ∧
  (∀ (s t : State) (b : Byte), s.role = .none → s.metaDd = true → exec (.mtimeHi b) s = .next t → t.vbyte = b) ∧
  (∀ s : State, s.role = .none → ∃ t u, exec (.mtimeLo 0x34#8) s = .next t ∧ exec (.mtimeHi 0x12#8) t = .next u ∧
    u.metaModtime = 0x1234#16)

/-- R235 to R238, MCRC0 to MCRC3: only the named byte of META_CRC changes. -/
def Obligations.McrcRules : Prop :=
  (∀ b : Byte, decode (cmdWord 0x23#8 b) = .ok (.mcrc0 b) ∧ decode (cmdWord 0x24#8 b) = .ok (.mcrc1 b) ∧
    decode (cmdWord 0x25#8 b) = .ok (.mcrc2 b) ∧ decode (cmdWord 0x26#8 b) = .ok (.mcrc3 b)) ∧
  (∀ (s : State) (b : Byte) (n : Nat) (i : Instr), s.role = .none →
    (n, i) ∈ [(0, Instr.mcrc0 b), (1, .mcrc1 b), (2, .mcrc2 b), (3, .mcrc3 b)] →
    ∃ v : BitVec 32, exec i s = .next { s with metaCrc := v, resp := ⟨0#4, 0#32⟩ } ∧
      v.extractLsb' (8 * n) 8 = b ∧
      ∀ m, m < 4 → m ≠ n → v.extractLsb' (8 * m) 8 = s.metaCrc.extractLsb' (8 * m) 8) ∧
  (∀ (s : State) (b : Byte) (i : Instr), s.role ≠ .none → i ∈ [Instr.mcrc0 b, .mcrc1 b, .mcrc2 b, .mcrc3 b] →
    exec i s = .next (s.faulted 2#4)) ∧
  (∀ (s t : State) (b : Byte) (i : Instr), s.role = .none → i ∈ [Instr.mcrc0 b, .mcrc1 b, .mcrc2 b] →
    exec i s = .next t → t.vbyte = s.vbyte) ∧
  (∀ (s t : State) (b : Byte), s.role = .none → s.metaDd = false → exec (.mcrc3 b) s = .next t → t.vbyte = b) ∧
  (∀ s : State, s.role = .none → s.metaCrc = 0#32 → ∃ t u v w,
    exec (.mcrc0 0xDD#8) s = .next t ∧ t.metaCrc = 0x000000DD#32 ∧
    exec (.mcrc1 0xCC#8) t = .next u ∧ u.metaCrc = 0x0000CCDD#32 ∧
    exec (.mcrc2 0xBB#8) u = .next v ∧ v.metaCrc = 0x00BBCCDD#32 ∧
    exec (.mcrc3 0xAA#8) v = .next w ∧ w.metaCrc = 0xAABBCCDD#32)

/-- R108 and R312: MLOAD in raw mode leaves exactly the four values in the metadata registers. -/
def Obligations.MloadLoadsMetadata : Prop :=
  ∀ (s : State) (enc dd : Bool) (t : BitVec 16) (c : BitVec 32), s.role = .none →
    ∃ y, run (expand (.mload enc dd t c)) s = .next y ∧
      y.final = { s with metaEnc := enc, metaDd := dd, metaModtime := t, metaCrc := c, resp := ⟨0#4, 0#32⟩ } ∧
      y.responses = List.replicate 7 ⟨0#4, 0#32⟩

/-- R46 and R239, RDREG: the six indices in every phase, no side effect, and every other index. -/
def Obligations.RdregRule : Prop :=
  (∀ i : Byte, i.toNat ≤ 5 → decode (cmdWord 0x30#8 i) = .ok (.rdreg i)) ∧
  (∀ s : State,
    exec (.rdreg 0#8) s = .next { s with resp := ⟨0#4, s.keys.k0⟩ } ∧
    exec (.rdreg 1#8) s = .next { s with resp := ⟨0#4, s.keys.k1⟩ } ∧
    exec (.rdreg 2#8) s = .next { s with resp := ⟨0#4, s.keys.k2⟩ } ∧
    exec (.rdreg 3#8) s = .next { s with resp := ⟨0#4, s.status⟩ } ∧
    exec (.rdreg 4#8) s = .next { s with resp := ⟨0#4, s.metaWord⟩ } ∧
    exec (.rdreg 5#8) s = .next { s with resp := ⟨0#4, s.metaCrc⟩ }) ∧
  (∀ (s : State) (i : Byte), 5 < i.toNat →
    exec (.rdreg i) s = .next (s.faulted 1#4) ∧ runWord (cmdWord 0x30#8 i) s = .next (s.faulted 1#4)) ∧
  (∀ s : State, s.role = .none → ∃ y, run (expand (.kinitPw [0x70#8, 0x61#8, 0x73#8, 0x73#8, 0x77#8, 0x6F#8, 0x72#8, 0x64#8])
      ++ expand .rdkeys) s = .next y ∧
    y.responses.drop 9 = [⟨0#4, 0xEA9B4E4D#32⟩, ⟨0#4, 0xBA789085#32⟩, ⟨0#4, 0x5FF8707D#32⟩])

/-- R38, R47 and R48: each field of STATUS and of META stands at its bits, HDR_DONE says HDR_CNT = 12, the reserved bits
read 0. -/
def Obligations.StatusAndMetaFields : Prop :=
  ∀ s : State,
    s.status.extractLsb' 0 2 = (match s.role with | .none => 0#2 | .dec => 1#2 | .enc => 2#2) ∧
    s.status.getLsbD 2 = s.verify ∧ s.status.getLsbD 3 = s.dead ∧ s.status.extractLsb' 4 4 = s.hdrCnt ∧
    s.status.getLsbD 8 = decide (s.hdrCnt = 12#4) ∧ s.status.extractLsb' 9 3 = 0#3 ∧
    s.status.extractLsb' 12 4 = s.stickyErr ∧ s.status.extractLsb' 16 16 = 0#16 ∧
    s.metaWord.extractLsb' 0 16 = s.metaModtime ∧ s.metaWord.getLsbD 16 = s.metaEnc ∧
    s.metaWord.getLsbD 17 = s.metaDd ∧ s.metaWord.extractLsb' 18 14 = 0#14

/-! ### Faults -/

/-- R273: the legality table, every entry, in the states R45 admits. -/
def Obligations.LegalityTable : Prop :=
  ∀ (i : Instr) (s : State), i.WellFormed → s.Inv →
    match legality i s.role s.phase with
    | .badState => exec i s = .next (s.faulted 2#4)
    | .adapterDead => exec i s = .next (s.faulted 3#4)
    | .ok => ∃ t, exec i s = .next t ∧ t.resp.status ≠ 2#4 ∧ t.resp.status ≠ 3#4

/-- R279: every word ends with the first fault of the priority order whose condition holds, and OK where none does. -/
def Obligations.FaultPriority : Prop :=
  ∀ (w : CmdWord) (s : State), s.Inv → ∃ t, runWord w s = .next t ∧ t.resp.status = expectedStatus w s

/-- R270: no word halts the block; a fault answers data 0, and changes nothing but STICKY_ERR, except that INVALID_PASSWORD
also writes the keys, HDR_CNT and DEAD. -/
def Obligations.FaultEffects : Prop :=
  (∀ (w : CmdWord) (s : State), ∃ t, runWord w s = .next t) ∧
  (∀ (w : CmdWord) (s t : State), runWord w s = .next t → t.resp.status ≠ 0#4 → t.resp.status ≠ 6#4 →
    t = s.faulted t.resp.status) ∧
  (∀ (w : CmdWord) (s t : State), runWord w s = .next t → t.resp.status = 6#4 →
    t = { s.faulted 6#4 with keys := t.keys, hdrCnt := 12#4, dead := true })

/-- R280: STICKY_ERR takes the first fault's code, keeps it over every later command, and only reset clears it. -/
def Obligations.StickyErrRecordsFirstFault : Prop :=
  (∀ (w : CmdWord) (s t : State), runWord w s = .next t →
    t.stickyErr = if t.resp.status ≠ 0#4 ∧ s.stickyErr = 0#4 then t.resp.status else s.stickyErr) ∧
  (∀ s t : State, step s = .next t → s.stickyErr ≠ 0#4 → s.host.head? ≠ some .reset → t.stickyErr = s.stickyErr) ∧
  (∀ s t : State, s.host.head? = some .reset → step s = .next t → t.stickyErr = 0#4)

/-- R39: STICKY_ERR has no effect on any command: two states that differ in it alone go to states that differ in it alone,
but for the data of RDREG STATUS, which shows it. -/
def Obligations.StickyErrHasNoEffect : Prop :=
  ∀ (i : Instr) (s t : State) (x : BitVec 4), i ≠ .rdreg 3#8 → exec i s = .next t →
    ∃ y, exec i { s with stickyErr := x } = .next { t with stickyErr := y }

/-- R106: the response of every command, and of every word that is no command. -/
def Obligations.ResponseOfEveryCommand : Prop :=
  (∀ (i : Instr) (s : State), ∃ t, exec i s = .next t ∧ t.resp.status.toNat ≤ 6 ∧
    t.resp.data = if t.resp.status = 0#4 then okData i s else 0#32) ∧
  (∀ (w : CmdWord) (s : State) (e : DecodeError), decode w = .error e →
    ∃ t, runWord w s = .next t ∧ t.resp = ⟨1#4, 0#32⟩)

/-- R274 with R231: with DEAD = 1 every DBYTE ends ADAPTER_DEAD, only CLOSE and RDREG end OK, the keys stand still, and only CLOSE clears DEAD. -/
def Obligations.DeadUntilClose : Prop :=
  ∀ (i : Instr) (s : State), s.Inv → s.dead = true →
    s.role = .dec ∧ (∀ c, exec (.dbyte c) s = .next (s.faulted 3#4)) ∧
    (∃ t, exec .close s = .next t ∧ t.dead = false) ∧
    ∃ t, exec i s = .next t ∧ t.keys = s.keys ∧ t.out = s.out ∧
      (i ≠ .close → t.dead = true ∧ t.role = s.role ∧ t.hdrCnt = s.hdrCnt) ∧
      (t.resp.status = 0#4 → i = .close ∨ ∃ n, i = .rdreg n)

/-! ### What only the named commands change -/

/-- R32: only the named writers change the key registers. -/
def Obligations.KeysWrittenOnlyByNamedCommands : Prop :=
  ∀ (i : Instr) (s t : State), exec i s = .next t → writesKeys i = false → t.keys = s.keys

/-- R40 to R43 and D12: only the load commands change the metadata registers, and nothing does while an adapter is open. -/
def Obligations.MetadataFrozenWhileOpen : Prop :=
  ∀ (i : Instr) (s t : State), exec i s = .next t → loadsMeta i = false ∨ s.role ≠ .none → SameMeta s t

/-- R72 and R76: OUT is append-only, and a command emits zero, one, twelve or thirteen bytes as the rules say. -/
def Obligations.OutIsAppendOnly : Prop :=
  ∀ (i : Instr) (s t : State), exec i s = .next t →
    ∃ bs : List Byte, t.out = s.out ++ bs ∧ bs.length = emitCount i s

/-- R73: eleven bytes are drawn by the command that generates a header, none by any other; no draw fails. -/
def Obligations.EntropyDrawnOnlyForHeader : Prop :=
  ∀ (i : Instr) (s t : State), exec i s = .next t →
    t.entropyPort = s.entropyPort ∧
    if makesHeader i s then
      t.entropy = s.entropy.drop 11 ∧ t.draws = s.draws + (11 - s.entropy.length)
    else t.entropy = s.entropy ∧ t.draws = s.draws

/-- R36: HDR_CNT never goes down except to 0 by CLOSE or an OPEN command. -/
def Obligations.HdrCntNeverDecreases : Prop :=
  ∀ (i : Instr) (s t : State), exec i s = .next t →
    s.hdrCnt ≤ t.hdrCnt ∨ t.hdrCnt = 0#4 ∧ (i = .close ∨ i = .openDec ∨ i = .openDecNv ∨ i = .openEnc)

/-! ### Steps, reset, invariants -/

/-- A step whose next event is a command word that decodes to `i` is exec of `i` on the state with that event taken off the
host's list. -/
def Obligations.StepRunsDecodedCommand : Prop :=
  ∀ (s : State) (w : CmdWord) (rest : List HostEvent) (i : Instr),
    s.host = .command w :: rest → decode w = .ok i → step s = exec i { s with host := rest }

/-- R272: a step whose next event is an illegal word raises ILLEGAL_CMD in every phase. -/
def Obligations.StepIllegalWord : Prop :=
  ∀ (s : State) (w : CmdWord) (rest : List HostEvent) (e : DecodeError),
    s.host = .command w :: rest → decode w = .error e → step s = .next (({ s with host := rest } : State).faulted 1#4)

/-- R84, U1: two commands presented together get no step (the event that stands for them is the model's, log entry 5). -/
def Obligations.ConcurrentCommandsRefused : Prop :=
  ∀ (s : State) (w₁ w₂ : CmdWord) (rest : List HostEvent),
    s.host = .together w₁ w₂ :: rest → step s = .refused .concurrentCommands

/-- R72 and R86: the host's draining takes bytes from the front of OUT and changes no other state of the block; with no
event pending the block waits unchanged (the waiting is the model's reading, log entry 2). -/
def Obligations.DrainAndIdle : Prop :=
  (∀ (s : State) (n : Nat) (rest : List HostEvent), s.host = .drain n :: rest →
    step s = .next { s with out := s.out.drop n, host := rest }) ∧
  (∀ s : State, s.host = [] → step s = .next s)

/-- R310: the reset event puts every state element at its reset value and leaves the platform's entropy source and the
host's later events. Nothing is said of the response, which the spec gives no value after a reset (log entry 1). -/
def Obligations.ResetEvent : Prop :=
  ∀ (s : State) (rest : List HostEvent), s.host = .reset :: rest →
    ∃ r : Response, step s = .next {
      keys := ⟨0x12345678#32, 0x23456789#32, 0x34567890#32⟩
      role := .none, verify := false, hdrCnt := 0#4, dead := false, stickyErr := 0#4
      metaEnc := false, metaDd := false, metaModtime := 0x0000#16, metaCrc := 0x00000000#32
      out := [], resp := r
      entropy := s.entropy, entropyPort := s.entropyPort, draws := s.draws, host := rest }

/-- R50: the value of every state element after reset. -/
def Obligations.ResetValues : Prop :=
  State.reset.keys = ⟨0x12345678#32, 0x23456789#32, 0x34567890#32⟩ ∧ State.reset.role = .none ∧
  State.reset.verify = false ∧ State.reset.hdrCnt = 0#4 ∧ State.reset.hdrDone = false ∧ State.reset.dead = false ∧
  State.reset.stickyErr = 0#4 ∧ State.reset.metaEnc = false ∧ State.reset.metaDd = false ∧
  State.reset.metaModtime = 0x0000#16 ∧ State.reset.metaCrc = 0x00000000#32 ∧ State.reset.out = [] ∧
  State.reset.phase = .raw

/-- The invariants hold at reset. Of `CodesInRange` (R271, U9), the bound on STICKY_ERR follows from R50; the bound on the
response status rests on the model's response before the first command (log entry 1), which R50 does not list. -/
def Obligations.InvAtReset : Prop := State.reset.Inv ∧ State.reset.CodesInRange

/-- The invariants of R45 are kept by every step from every state that meets them. -/
def Obligations.StepKeepsInv : Prop :=
  ∀ s t : State, s.Inv → step s = .next t → t.Inv

/-- Every reachable state keeps (a) to (e) of R45, which the spec marks as derived from the writer lists. The step lemma is
`StepKeepsInv`; (e) holds by the type `Role`, whose three names leave out the value 3 (log entry 10). -/
def Obligations.ReachableStatesKeepInv : Prop :=
  ∀ s : State, Reachable s →
    s.hdrCnt.toNat ≤ 12 ∧
    (s.role = .none → s.hdrCnt = 0#4 ∧ s.verify = false ∧ s.dead = false) ∧
    (s.role = .enc → s.verify = false ∧ s.dead = false ∧ (s.hdrCnt = 0#4 ∨ s.hdrCnt = 12#4)) ∧
    (s.dead = true → s.role = .dec ∧ s.verify = true ∧ s.hdrCnt = 12#4) ∧
    s.role.bits ≠ 3#2

/-- R271, U9: no step brings in a reserved fault code, in the response or in STICKY_ERR. For the step of a reset event the
bound on the response status rests on the model's response after a reset (log entry 1). -/
def Obligations.StepKeepsCodesInRange : Prop :=
  ∀ s t : State, s.CodesInRange → step s = .next t → t.CodesInRange

/-- R78: a step takes exactly the next event of the host's list, and a run of two lists is the run of the first followed by
the run of the second from its final state. -/
def Obligations.CommandsInOrder : Prop :=
  (∀ s t : State, step s = .next t → t.host = s.host.tail) ∧
  (∀ (as bs : List CmdWord) (s : State), ∃ y z, runWords as s = .next y ∧ runWords bs y.final = .next z ∧
    runWords (as ++ bs) s = .next ⟨y.responses ++ z.responses, z.final⟩)

/-- R290 (the platform as a list of engines is the model's, log entry 4): a step of one engine of a platform changes no other engine. -/
def Obligations.EnginesAreIndependent : Prop :=
  ∀ (p q : Platform) (n : Nat), stepEngine p n = some (.next q) →
    q.length = p.length ∧ (∀ m : Nat, m ≠ n → q[m]? = p[m]?) ∧
    ∃ s t, p[n]? = some s ∧ step s = .next t ∧ q[n]? = some t

/-! ### The round trip and the assembler -/

/-- The round trip of R204, which the spec marks as derived: encrypting any payload under any password and decrypting what came out, with the same metadata and password,
gives the payload back, every DBYTE ending OK, for every entropy draw. -/
def Obligations.RoundTrip : Prop :=
  ∀ (e d : State) (pw m : List Byte),
    e.role = .none → d.role = .none → e.metaEnc = true → SameMeta e d →
    ∃ y hc z, run (.openEnc :: expand (.password pw) ++ expand (.encrypt m)) e = .next y ∧
      y.final.out = e.out ++ hc ∧ hc.length = 12 + m.length ∧
      run (.openDec :: expand (.password pw) ++ expand (.decrypt hc)) d = .next z ∧
      (∀ r ∈ z.responses, r = ⟨0#4, 0#32⟩) ∧ z.final.out = d.out ++ m ∧ z.final.keys = y.final.keys

/-- The expansions of R108, in order. That DECRYPT with no byte expands to no command is the model's choice (log entry 8). -/
def Obligations.PseudoExpansions : Prop :=
  (∀ s : List Byte, expand (.kinitPw s) = .kinit :: s.map .kupd) ∧
  (∀ s : List Byte, expand (.password s) = s.map .pwb) ∧
  (∀ (enc dd : Bool) (t : BitVec 16) (c : BitVec 32), expand (.mload enc dd t c) =
    [.mflags (BitVec.ofNat 8 (2 * dd.toNat + enc.toNat)), .mtimeLo (t.truncate 8), .mtimeHi ((t >>> 8).truncate 8),
     .mcrc0 (c.truncate 8), .mcrc1 ((c >>> 8).truncate 8), .mcrc2 ((c >>> 16).truncate 8), .mcrc3 ((c >>> 24).truncate 8)]) ∧
  (∀ bs : List Byte, expand (.decrypt bs) = bs.map .dbyte) ∧
  (∀ bs : List Byte, expand (.encrypt bs) = if bs = [] then [.ehdr] else bs.map .ebyte) ∧
  expand .rdkeys = [.rdreg 0#8, .rdreg 1#8, .rdreg 2#8]

/-- The assembler answers only words the decoder accepts, for a command and for a pseudo-instruction: an operand that is out
of range is refused. -/
def Obligations.AssemblerGivesLegalWords : Prop :=
  (∀ (line : List Char) (w : CmdWord), assembleLine line = .ok (some w) → ∃ i, decode w = .ok i) ∧
  (∀ (line : List Char) (ws : List CmdWord), assembleSource line = .ok ws → ∀ w ∈ ws, ∃ i, decode w = .ok i)
end

