-- ==== Sys2Proof/Laws/Cipher.lean ====
section
/-! SUPPORT. Arithmetic of the KeyState functions: the linear-congruential step on natural numbers, and the sequence
functions at an appended byte. -/
namespace Sys2Proof.Machine

/-- A 32-bit linear-congruential step is the natural-number one modulo 2^32 (R16). -/
theorem lcg_toNat (x : Word) (y : Byte) (m : Word) :
    ((x + zext32 y) * m + 1#32).toNat = ((x.toNat + y.toNat) * m.toNat + 1) % 2 ^ 32 := by
  have hy : (zext32 y).toNat = y.toNat := by simp [zext32]; have := y.isLt; omega
  rw [BitVec.toNat_add, BitVec.toNat_mul, BitVec.toNat_add, hy]
  simp

@[simp] theorem updateAll_nil (k : Keys) : updateAll k [] = k := rfl

@[simp] theorem updateAll_cons (k : Keys) (b : Byte) (bs : List Byte) :
    updateAll k (b :: bs) = updateAll (update k b) bs := rfl

theorem updateAll_append (k : Keys) (as bs : List Byte) :
    updateAll k (as ++ bs) = updateAll (updateAll k as) bs := by
  simp [updateAll]

end Sys2Proof.Machine
end

