-- ==== Sys2Proof/Laws/State.lean ====
section
/-! SUPPORT. What each update of Machine/Ops.lean leaves in each field of the state, and that the derived values read only
their own fields. -/
namespace Sys2Proof.Machine

@[simp] theorem State.respond_keys (s : State) (d : Word) : (s.respond d).keys = s.keys := rfl
@[simp] theorem State.respond_role (s : State) (d : Word) : (s.respond d).role = s.role := rfl
@[simp] theorem State.respond_verify (s : State) (d : Word) : (s.respond d).verify = s.verify := rfl
@[simp] theorem State.respond_hdrCnt (s : State) (d : Word) : (s.respond d).hdrCnt = s.hdrCnt := rfl
@[simp] theorem State.respond_dead (s : State) (d : Word) : (s.respond d).dead = s.dead := rfl
@[simp] theorem State.respond_stickyErr (s : State) (d : Word) : (s.respond d).stickyErr = s.stickyErr := rfl
@[simp] theorem State.respond_metaEnc (s : State) (d : Word) : (s.respond d).metaEnc = s.metaEnc := rfl
@[simp] theorem State.respond_metaDd (s : State) (d : Word) : (s.respond d).metaDd = s.metaDd := rfl
@[simp] theorem State.respond_metaModtime (s : State) (d : Word) : (s.respond d).metaModtime = s.metaModtime := rfl
@[simp] theorem State.respond_metaCrc (s : State) (d : Word) : (s.respond d).metaCrc = s.metaCrc := rfl
@[simp] theorem State.respond_out (s : State) (d : Word) : (s.respond d).out = s.out := rfl
@[simp] theorem State.respond_resp (s : State) (d : Word) : (s.respond d).resp = ⟨0#4, d⟩ := rfl
@[simp] theorem State.respond_entropy (s : State) (d : Word) : (s.respond d).entropy = s.entropy := rfl
@[simp] theorem State.respond_entropyPort (s : State) (d : Word) : (s.respond d).entropyPort = s.entropyPort := rfl
@[simp] theorem State.respond_draws (s : State) (d : Word) : (s.respond d).draws = s.draws := rfl
@[simp] theorem State.respond_host (s : State) (d : Word) : (s.respond d).host = s.host := rfl

@[simp] theorem State.raise_keys (s : State) (f : FaultCode) : (s.raise f).keys = s.keys := rfl
@[simp] theorem State.raise_role (s : State) (f : FaultCode) : (s.raise f).role = s.role := rfl
@[simp] theorem State.raise_verify (s : State) (f : FaultCode) : (s.raise f).verify = s.verify := rfl
@[simp] theorem State.raise_hdrCnt (s : State) (f : FaultCode) : (s.raise f).hdrCnt = s.hdrCnt := rfl
@[simp] theorem State.raise_dead (s : State) (f : FaultCode) : (s.raise f).dead = s.dead := rfl
@[simp] theorem State.raise_stickyErr (s : State) (f : FaultCode) : (s.raise f).stickyErr = if s.stickyErr = 0#4 then f.code else s.stickyErr := rfl
@[simp] theorem State.raise_metaEnc (s : State) (f : FaultCode) : (s.raise f).metaEnc = s.metaEnc := rfl
@[simp] theorem State.raise_metaDd (s : State) (f : FaultCode) : (s.raise f).metaDd = s.metaDd := rfl
@[simp] theorem State.raise_metaModtime (s : State) (f : FaultCode) : (s.raise f).metaModtime = s.metaModtime := rfl
@[simp] theorem State.raise_metaCrc (s : State) (f : FaultCode) : (s.raise f).metaCrc = s.metaCrc := rfl
@[simp] theorem State.raise_out (s : State) (f : FaultCode) : (s.raise f).out = s.out := rfl
@[simp] theorem State.raise_resp (s : State) (f : FaultCode) : (s.raise f).resp = ⟨f.code, 0#32⟩ := rfl
@[simp] theorem State.raise_entropy (s : State) (f : FaultCode) : (s.raise f).entropy = s.entropy := rfl
@[simp] theorem State.raise_entropyPort (s : State) (f : FaultCode) : (s.raise f).entropyPort = s.entropyPort := rfl
@[simp] theorem State.raise_draws (s : State) (f : FaultCode) : (s.raise f).draws = s.draws := rfl
@[simp] theorem State.raise_host (s : State) (f : FaultCode) : (s.raise f).host = s.host := rfl

@[simp] theorem State.setKeys_keys (s : State) (k : Keys) : (s.setKeys k).keys = k := rfl
@[simp] theorem State.setKeys_role (s : State) (k : Keys) : (s.setKeys k).role = s.role := rfl
@[simp] theorem State.setKeys_verify (s : State) (k : Keys) : (s.setKeys k).verify = s.verify := rfl
@[simp] theorem State.setKeys_hdrCnt (s : State) (k : Keys) : (s.setKeys k).hdrCnt = s.hdrCnt := rfl
@[simp] theorem State.setKeys_dead (s : State) (k : Keys) : (s.setKeys k).dead = s.dead := rfl
@[simp] theorem State.setKeys_stickyErr (s : State) (k : Keys) : (s.setKeys k).stickyErr = s.stickyErr := rfl
@[simp] theorem State.setKeys_metaEnc (s : State) (k : Keys) : (s.setKeys k).metaEnc = s.metaEnc := rfl
@[simp] theorem State.setKeys_metaDd (s : State) (k : Keys) : (s.setKeys k).metaDd = s.metaDd := rfl
@[simp] theorem State.setKeys_metaModtime (s : State) (k : Keys) : (s.setKeys k).metaModtime = s.metaModtime := rfl
@[simp] theorem State.setKeys_metaCrc (s : State) (k : Keys) : (s.setKeys k).metaCrc = s.metaCrc := rfl
@[simp] theorem State.setKeys_out (s : State) (k : Keys) : (s.setKeys k).out = s.out := rfl
@[simp] theorem State.setKeys_resp (s : State) (k : Keys) : (s.setKeys k).resp = s.resp := rfl
@[simp] theorem State.setKeys_entropy (s : State) (k : Keys) : (s.setKeys k).entropy = s.entropy := rfl
@[simp] theorem State.setKeys_entropyPort (s : State) (k : Keys) : (s.setKeys k).entropyPort = s.entropyPort := rfl
@[simp] theorem State.setKeys_draws (s : State) (k : Keys) : (s.setKeys k).draws = s.draws := rfl
@[simp] theorem State.setKeys_host (s : State) (k : Keys) : (s.setKeys k).host = s.host := rfl

@[simp] theorem State.setHdrCnt_keys (s : State) (n : BitVec 4) : (s.setHdrCnt n).keys = s.keys := rfl
@[simp] theorem State.setHdrCnt_role (s : State) (n : BitVec 4) : (s.setHdrCnt n).role = s.role := rfl
@[simp] theorem State.setHdrCnt_verify (s : State) (n : BitVec 4) : (s.setHdrCnt n).verify = s.verify := rfl
@[simp] theorem State.setHdrCnt_hdrCnt (s : State) (n : BitVec 4) : (s.setHdrCnt n).hdrCnt = n := rfl
@[simp] theorem State.setHdrCnt_dead (s : State) (n : BitVec 4) : (s.setHdrCnt n).dead = s.dead := rfl
@[simp] theorem State.setHdrCnt_stickyErr (s : State) (n : BitVec 4) : (s.setHdrCnt n).stickyErr = s.stickyErr := rfl
@[simp] theorem State.setHdrCnt_metaEnc (s : State) (n : BitVec 4) : (s.setHdrCnt n).metaEnc = s.metaEnc := rfl
@[simp] theorem State.setHdrCnt_metaDd (s : State) (n : BitVec 4) : (s.setHdrCnt n).metaDd = s.metaDd := rfl
@[simp] theorem State.setHdrCnt_metaModtime (s : State) (n : BitVec 4) : (s.setHdrCnt n).metaModtime = s.metaModtime := rfl
@[simp] theorem State.setHdrCnt_metaCrc (s : State) (n : BitVec 4) : (s.setHdrCnt n).metaCrc = s.metaCrc := rfl
@[simp] theorem State.setHdrCnt_out (s : State) (n : BitVec 4) : (s.setHdrCnt n).out = s.out := rfl
@[simp] theorem State.setHdrCnt_resp (s : State) (n : BitVec 4) : (s.setHdrCnt n).resp = s.resp := rfl
@[simp] theorem State.setHdrCnt_entropy (s : State) (n : BitVec 4) : (s.setHdrCnt n).entropy = s.entropy := rfl
@[simp] theorem State.setHdrCnt_entropyPort (s : State) (n : BitVec 4) : (s.setHdrCnt n).entropyPort = s.entropyPort := rfl
@[simp] theorem State.setHdrCnt_draws (s : State) (n : BitVec 4) : (s.setHdrCnt n).draws = s.draws := rfl
@[simp] theorem State.setHdrCnt_host (s : State) (n : BitVec 4) : (s.setHdrCnt n).host = s.host := rfl

@[simp] theorem State.setDead_keys (s : State) : (s.setDead).keys = s.keys := rfl
@[simp] theorem State.setDead_role (s : State) : (s.setDead).role = s.role := rfl
@[simp] theorem State.setDead_verify (s : State) : (s.setDead).verify = s.verify := rfl
@[simp] theorem State.setDead_hdrCnt (s : State) : (s.setDead).hdrCnt = s.hdrCnt := rfl
@[simp] theorem State.setDead_dead (s : State) : (s.setDead).dead = true := rfl
@[simp] theorem State.setDead_stickyErr (s : State) : (s.setDead).stickyErr = s.stickyErr := rfl
@[simp] theorem State.setDead_metaEnc (s : State) : (s.setDead).metaEnc = s.metaEnc := rfl
@[simp] theorem State.setDead_metaDd (s : State) : (s.setDead).metaDd = s.metaDd := rfl
@[simp] theorem State.setDead_metaModtime (s : State) : (s.setDead).metaModtime = s.metaModtime := rfl
@[simp] theorem State.setDead_metaCrc (s : State) : (s.setDead).metaCrc = s.metaCrc := rfl
@[simp] theorem State.setDead_out (s : State) : (s.setDead).out = s.out := rfl
@[simp] theorem State.setDead_resp (s : State) : (s.setDead).resp = s.resp := rfl
@[simp] theorem State.setDead_entropy (s : State) : (s.setDead).entropy = s.entropy := rfl
@[simp] theorem State.setDead_entropyPort (s : State) : (s.setDead).entropyPort = s.entropyPort := rfl
@[simp] theorem State.setDead_draws (s : State) : (s.setDead).draws = s.draws := rfl
@[simp] theorem State.setDead_host (s : State) : (s.setDead).host = s.host := rfl

@[simp] theorem State.openAs_keys (s : State) (r : Role) (v : Bool) : (s.openAs r v).keys = Keys.init := rfl
@[simp] theorem State.openAs_role (s : State) (r : Role) (v : Bool) : (s.openAs r v).role = r := rfl
@[simp] theorem State.openAs_verify (s : State) (r : Role) (v : Bool) : (s.openAs r v).verify = v := rfl
@[simp] theorem State.openAs_hdrCnt (s : State) (r : Role) (v : Bool) : (s.openAs r v).hdrCnt = 0#4 := rfl
@[simp] theorem State.openAs_dead (s : State) (r : Role) (v : Bool) : (s.openAs r v).dead = false := rfl
@[simp] theorem State.openAs_stickyErr (s : State) (r : Role) (v : Bool) : (s.openAs r v).stickyErr = s.stickyErr := rfl
@[simp] theorem State.openAs_metaEnc (s : State) (r : Role) (v : Bool) : (s.openAs r v).metaEnc = s.metaEnc := rfl
@[simp] theorem State.openAs_metaDd (s : State) (r : Role) (v : Bool) : (s.openAs r v).metaDd = s.metaDd := rfl
@[simp] theorem State.openAs_metaModtime (s : State) (r : Role) (v : Bool) : (s.openAs r v).metaModtime = s.metaModtime := rfl
@[simp] theorem State.openAs_metaCrc (s : State) (r : Role) (v : Bool) : (s.openAs r v).metaCrc = s.metaCrc := rfl
@[simp] theorem State.openAs_out (s : State) (r : Role) (v : Bool) : (s.openAs r v).out = s.out := rfl
@[simp] theorem State.openAs_resp (s : State) (r : Role) (v : Bool) : (s.openAs r v).resp = s.resp := rfl
@[simp] theorem State.openAs_entropy (s : State) (r : Role) (v : Bool) : (s.openAs r v).entropy = s.entropy := rfl
@[simp] theorem State.openAs_entropyPort (s : State) (r : Role) (v : Bool) : (s.openAs r v).entropyPort = s.entropyPort := rfl
@[simp] theorem State.openAs_draws (s : State) (r : Role) (v : Bool) : (s.openAs r v).draws = s.draws := rfl
@[simp] theorem State.openAs_host (s : State) (r : Role) (v : Bool) : (s.openAs r v).host = s.host := rfl

@[simp] theorem State.closeAdapter_keys (s : State) : (s.closeAdapter).keys = s.keys := rfl
@[simp] theorem State.closeAdapter_role (s : State) : (s.closeAdapter).role = .none := rfl
@[simp] theorem State.closeAdapter_verify (s : State) : (s.closeAdapter).verify = false := rfl
@[simp] theorem State.closeAdapter_hdrCnt (s : State) : (s.closeAdapter).hdrCnt = 0#4 := rfl
@[simp] theorem State.closeAdapter_dead (s : State) : (s.closeAdapter).dead = false := rfl
@[simp] theorem State.closeAdapter_stickyErr (s : State) : (s.closeAdapter).stickyErr = s.stickyErr := rfl
@[simp] theorem State.closeAdapter_metaEnc (s : State) : (s.closeAdapter).metaEnc = s.metaEnc := rfl
@[simp] theorem State.closeAdapter_metaDd (s : State) : (s.closeAdapter).metaDd = s.metaDd := rfl
@[simp] theorem State.closeAdapter_metaModtime (s : State) : (s.closeAdapter).metaModtime = s.metaModtime := rfl
@[simp] theorem State.closeAdapter_metaCrc (s : State) : (s.closeAdapter).metaCrc = s.metaCrc := rfl
@[simp] theorem State.closeAdapter_out (s : State) : (s.closeAdapter).out = s.out := rfl
@[simp] theorem State.closeAdapter_resp (s : State) : (s.closeAdapter).resp = s.resp := rfl
@[simp] theorem State.closeAdapter_entropy (s : State) : (s.closeAdapter).entropy = s.entropy := rfl
@[simp] theorem State.closeAdapter_entropyPort (s : State) : (s.closeAdapter).entropyPort = s.entropyPort := rfl
@[simp] theorem State.closeAdapter_draws (s : State) : (s.closeAdapter).draws = s.draws := rfl
@[simp] theorem State.closeAdapter_host (s : State) : (s.closeAdapter).host = s.host := rfl

@[simp] theorem State.setFlags_keys (s : State) (e d : Bool) : (s.setFlags e d).keys = s.keys := rfl
@[simp] theorem State.setFlags_role (s : State) (e d : Bool) : (s.setFlags e d).role = s.role := rfl
@[simp] theorem State.setFlags_verify (s : State) (e d : Bool) : (s.setFlags e d).verify = s.verify := rfl
@[simp] theorem State.setFlags_hdrCnt (s : State) (e d : Bool) : (s.setFlags e d).hdrCnt = s.hdrCnt := rfl
@[simp] theorem State.setFlags_dead (s : State) (e d : Bool) : (s.setFlags e d).dead = s.dead := rfl
@[simp] theorem State.setFlags_stickyErr (s : State) (e d : Bool) : (s.setFlags e d).stickyErr = s.stickyErr := rfl
@[simp] theorem State.setFlags_metaEnc (s : State) (e d : Bool) : (s.setFlags e d).metaEnc = e := rfl
@[simp] theorem State.setFlags_metaDd (s : State) (e d : Bool) : (s.setFlags e d).metaDd = d := rfl
@[simp] theorem State.setFlags_metaModtime (s : State) (e d : Bool) : (s.setFlags e d).metaModtime = s.metaModtime := rfl
@[simp] theorem State.setFlags_metaCrc (s : State) (e d : Bool) : (s.setFlags e d).metaCrc = s.metaCrc := rfl
@[simp] theorem State.setFlags_out (s : State) (e d : Bool) : (s.setFlags e d).out = s.out := rfl
@[simp] theorem State.setFlags_resp (s : State) (e d : Bool) : (s.setFlags e d).resp = s.resp := rfl
@[simp] theorem State.setFlags_entropy (s : State) (e d : Bool) : (s.setFlags e d).entropy = s.entropy := rfl
@[simp] theorem State.setFlags_entropyPort (s : State) (e d : Bool) : (s.setFlags e d).entropyPort = s.entropyPort := rfl
@[simp] theorem State.setFlags_draws (s : State) (e d : Bool) : (s.setFlags e d).draws = s.draws := rfl
@[simp] theorem State.setFlags_host (s : State) (e d : Bool) : (s.setFlags e d).host = s.host := rfl

@[simp] theorem State.setModtime_keys (s : State) (t : BitVec 16) : (s.setModtime t).keys = s.keys := rfl
@[simp] theorem State.setModtime_role (s : State) (t : BitVec 16) : (s.setModtime t).role = s.role := rfl
@[simp] theorem State.setModtime_verify (s : State) (t : BitVec 16) : (s.setModtime t).verify = s.verify := rfl
@[simp] theorem State.setModtime_hdrCnt (s : State) (t : BitVec 16) : (s.setModtime t).hdrCnt = s.hdrCnt := rfl
@[simp] theorem State.setModtime_dead (s : State) (t : BitVec 16) : (s.setModtime t).dead = s.dead := rfl
@[simp] theorem State.setModtime_stickyErr (s : State) (t : BitVec 16) : (s.setModtime t).stickyErr = s.stickyErr := rfl
@[simp] theorem State.setModtime_metaEnc (s : State) (t : BitVec 16) : (s.setModtime t).metaEnc = s.metaEnc := rfl
@[simp] theorem State.setModtime_metaDd (s : State) (t : BitVec 16) : (s.setModtime t).metaDd = s.metaDd := rfl
@[simp] theorem State.setModtime_metaModtime (s : State) (t : BitVec 16) : (s.setModtime t).metaModtime = t := rfl
@[simp] theorem State.setModtime_metaCrc (s : State) (t : BitVec 16) : (s.setModtime t).metaCrc = s.metaCrc := rfl
@[simp] theorem State.setModtime_out (s : State) (t : BitVec 16) : (s.setModtime t).out = s.out := rfl
@[simp] theorem State.setModtime_resp (s : State) (t : BitVec 16) : (s.setModtime t).resp = s.resp := rfl
@[simp] theorem State.setModtime_entropy (s : State) (t : BitVec 16) : (s.setModtime t).entropy = s.entropy := rfl
@[simp] theorem State.setModtime_entropyPort (s : State) (t : BitVec 16) : (s.setModtime t).entropyPort = s.entropyPort := rfl
@[simp] theorem State.setModtime_draws (s : State) (t : BitVec 16) : (s.setModtime t).draws = s.draws := rfl
@[simp] theorem State.setModtime_host (s : State) (t : BitVec 16) : (s.setModtime t).host = s.host := rfl

@[simp] theorem State.setCrc_keys (s : State) (c : BitVec 32) : (s.setCrc c).keys = s.keys := rfl
@[simp] theorem State.setCrc_role (s : State) (c : BitVec 32) : (s.setCrc c).role = s.role := rfl
@[simp] theorem State.setCrc_verify (s : State) (c : BitVec 32) : (s.setCrc c).verify = s.verify := rfl
@[simp] theorem State.setCrc_hdrCnt (s : State) (c : BitVec 32) : (s.setCrc c).hdrCnt = s.hdrCnt := rfl
@[simp] theorem State.setCrc_dead (s : State) (c : BitVec 32) : (s.setCrc c).dead = s.dead := rfl
@[simp] theorem State.setCrc_stickyErr (s : State) (c : BitVec 32) : (s.setCrc c).stickyErr = s.stickyErr := rfl
@[simp] theorem State.setCrc_metaEnc (s : State) (c : BitVec 32) : (s.setCrc c).metaEnc = s.metaEnc := rfl
@[simp] theorem State.setCrc_metaDd (s : State) (c : BitVec 32) : (s.setCrc c).metaDd = s.metaDd := rfl
@[simp] theorem State.setCrc_metaModtime (s : State) (c : BitVec 32) : (s.setCrc c).metaModtime = s.metaModtime := rfl
@[simp] theorem State.setCrc_metaCrc (s : State) (c : BitVec 32) : (s.setCrc c).metaCrc = c := rfl
@[simp] theorem State.setCrc_out (s : State) (c : BitVec 32) : (s.setCrc c).out = s.out := rfl
@[simp] theorem State.setCrc_resp (s : State) (c : BitVec 32) : (s.setCrc c).resp = s.resp := rfl
@[simp] theorem State.setCrc_entropy (s : State) (c : BitVec 32) : (s.setCrc c).entropy = s.entropy := rfl
@[simp] theorem State.setCrc_entropyPort (s : State) (c : BitVec 32) : (s.setCrc c).entropyPort = s.entropyPort := rfl
@[simp] theorem State.setCrc_draws (s : State) (c : BitVec 32) : (s.setCrc c).draws = s.draws := rfl
@[simp] theorem State.setCrc_host (s : State) (c : BitVec 32) : (s.setCrc c).host = s.host := rfl

@[simp] theorem State.emit_keys (s : State) (b : Byte) : (s.emit b).keys = s.keys := rfl
@[simp] theorem State.emit_role (s : State) (b : Byte) : (s.emit b).role = s.role := rfl
@[simp] theorem State.emit_verify (s : State) (b : Byte) : (s.emit b).verify = s.verify := rfl
@[simp] theorem State.emit_hdrCnt (s : State) (b : Byte) : (s.emit b).hdrCnt = s.hdrCnt := rfl
@[simp] theorem State.emit_dead (s : State) (b : Byte) : (s.emit b).dead = s.dead := rfl
@[simp] theorem State.emit_stickyErr (s : State) (b : Byte) : (s.emit b).stickyErr = s.stickyErr := rfl
@[simp] theorem State.emit_metaEnc (s : State) (b : Byte) : (s.emit b).metaEnc = s.metaEnc := rfl
@[simp] theorem State.emit_metaDd (s : State) (b : Byte) : (s.emit b).metaDd = s.metaDd := rfl
@[simp] theorem State.emit_metaModtime (s : State) (b : Byte) : (s.emit b).metaModtime = s.metaModtime := rfl
@[simp] theorem State.emit_metaCrc (s : State) (b : Byte) : (s.emit b).metaCrc = s.metaCrc := rfl
@[simp] theorem State.emit_out (s : State) (b : Byte) : (s.emit b).out = s.out ++ [b] := rfl
@[simp] theorem State.emit_resp (s : State) (b : Byte) : (s.emit b).resp = s.resp := rfl
@[simp] theorem State.emit_entropy (s : State) (b : Byte) : (s.emit b).entropy = s.entropy := rfl
@[simp] theorem State.emit_entropyPort (s : State) (b : Byte) : (s.emit b).entropyPort = s.entropyPort := rfl
@[simp] theorem State.emit_draws (s : State) (b : Byte) : (s.emit b).draws = s.draws := rfl
@[simp] theorem State.emit_host (s : State) (b : Byte) : (s.emit b).host = s.host := rfl

@[simp] theorem State.drain_keys (s : State) (n : Nat) : (s.drain n).keys = s.keys := rfl
@[simp] theorem State.drain_role (s : State) (n : Nat) : (s.drain n).role = s.role := rfl
@[simp] theorem State.drain_verify (s : State) (n : Nat) : (s.drain n).verify = s.verify := rfl
@[simp] theorem State.drain_hdrCnt (s : State) (n : Nat) : (s.drain n).hdrCnt = s.hdrCnt := rfl
@[simp] theorem State.drain_dead (s : State) (n : Nat) : (s.drain n).dead = s.dead := rfl
@[simp] theorem State.drain_stickyErr (s : State) (n : Nat) : (s.drain n).stickyErr = s.stickyErr := rfl
@[simp] theorem State.drain_metaEnc (s : State) (n : Nat) : (s.drain n).metaEnc = s.metaEnc := rfl
@[simp] theorem State.drain_metaDd (s : State) (n : Nat) : (s.drain n).metaDd = s.metaDd := rfl
@[simp] theorem State.drain_metaModtime (s : State) (n : Nat) : (s.drain n).metaModtime = s.metaModtime := rfl
@[simp] theorem State.drain_metaCrc (s : State) (n : Nat) : (s.drain n).metaCrc = s.metaCrc := rfl
@[simp] theorem State.drain_out (s : State) (n : Nat) : (s.drain n).out = s.out.drop n := rfl
@[simp] theorem State.drain_resp (s : State) (n : Nat) : (s.drain n).resp = s.resp := rfl
@[simp] theorem State.drain_entropy (s : State) (n : Nat) : (s.drain n).entropy = s.entropy := rfl
@[simp] theorem State.drain_entropyPort (s : State) (n : Nat) : (s.drain n).entropyPort = s.entropyPort := rfl
@[simp] theorem State.drain_draws (s : State) (n : Nat) : (s.drain n).draws = s.draws := rfl
@[simp] theorem State.drain_host (s : State) (n : Nat) : (s.drain n).host = s.host := rfl

@[simp] theorem State.present_keys (s : State) (w : CmdWord) : (s.present w).keys = s.keys := rfl
@[simp] theorem State.present_role (s : State) (w : CmdWord) : (s.present w).role = s.role := rfl
@[simp] theorem State.present_verify (s : State) (w : CmdWord) : (s.present w).verify = s.verify := rfl
@[simp] theorem State.present_hdrCnt (s : State) (w : CmdWord) : (s.present w).hdrCnt = s.hdrCnt := rfl
@[simp] theorem State.present_dead (s : State) (w : CmdWord) : (s.present w).dead = s.dead := rfl
@[simp] theorem State.present_stickyErr (s : State) (w : CmdWord) : (s.present w).stickyErr = s.stickyErr := rfl
@[simp] theorem State.present_metaEnc (s : State) (w : CmdWord) : (s.present w).metaEnc = s.metaEnc := rfl
@[simp] theorem State.present_metaDd (s : State) (w : CmdWord) : (s.present w).metaDd = s.metaDd := rfl
@[simp] theorem State.present_metaModtime (s : State) (w : CmdWord) : (s.present w).metaModtime = s.metaModtime := rfl
@[simp] theorem State.present_metaCrc (s : State) (w : CmdWord) : (s.present w).metaCrc = s.metaCrc := rfl
@[simp] theorem State.present_out (s : State) (w : CmdWord) : (s.present w).out = s.out := rfl
@[simp] theorem State.present_resp (s : State) (w : CmdWord) : (s.present w).resp = s.resp := rfl
@[simp] theorem State.present_entropy (s : State) (w : CmdWord) : (s.present w).entropy = s.entropy := rfl
@[simp] theorem State.present_entropyPort (s : State) (w : CmdWord) : (s.present w).entropyPort = s.entropyPort := rfl
@[simp] theorem State.present_draws (s : State) (w : CmdWord) : (s.present w).draws = s.draws := rfl
@[simp] theorem State.present_host (s : State) (w : CmdWord) : (s.present w).host = .command w :: s.host := rfl

@[simp] theorem State.resetEvent_keys (s : State) : (s.resetEvent).keys = State.reset.keys := rfl
@[simp] theorem State.resetEvent_role (s : State) : (s.resetEvent).role = State.reset.role := rfl
@[simp] theorem State.resetEvent_verify (s : State) : (s.resetEvent).verify = State.reset.verify := rfl
@[simp] theorem State.resetEvent_hdrCnt (s : State) : (s.resetEvent).hdrCnt = State.reset.hdrCnt := rfl
@[simp] theorem State.resetEvent_dead (s : State) : (s.resetEvent).dead = State.reset.dead := rfl
@[simp] theorem State.resetEvent_stickyErr (s : State) : (s.resetEvent).stickyErr = State.reset.stickyErr := rfl
@[simp] theorem State.resetEvent_metaEnc (s : State) : (s.resetEvent).metaEnc = State.reset.metaEnc := rfl
@[simp] theorem State.resetEvent_metaDd (s : State) : (s.resetEvent).metaDd = State.reset.metaDd := rfl
@[simp] theorem State.resetEvent_metaModtime (s : State) : (s.resetEvent).metaModtime = State.reset.metaModtime := rfl
@[simp] theorem State.resetEvent_metaCrc (s : State) : (s.resetEvent).metaCrc = State.reset.metaCrc := rfl
@[simp] theorem State.resetEvent_out (s : State) : (s.resetEvent).out = State.reset.out := rfl
@[simp] theorem State.resetEvent_resp (s : State) : (s.resetEvent).resp = State.reset.resp := rfl
@[simp] theorem State.resetEvent_entropy (s : State) : (s.resetEvent).entropy = s.entropy := rfl
@[simp] theorem State.resetEvent_entropyPort (s : State) : (s.resetEvent).entropyPort = s.entropyPort := rfl
@[simp] theorem State.resetEvent_draws (s : State) : (s.resetEvent).draws = s.draws := rfl
@[simp] theorem State.resetEvent_host (s : State) : (s.resetEvent).host = s.host := rfl

@[simp] theorem State.draw_keys (s : State) : s.draw.2.keys = s.keys := by
  unfold State.draw; split <;> rfl
@[simp] theorem State.draw_role (s : State) : s.draw.2.role = s.role := by
  unfold State.draw; split <;> rfl
@[simp] theorem State.draw_verify (s : State) : s.draw.2.verify = s.verify := by
  unfold State.draw; split <;> rfl
@[simp] theorem State.draw_hdrCnt (s : State) : s.draw.2.hdrCnt = s.hdrCnt := by
  unfold State.draw; split <;> rfl
@[simp] theorem State.draw_dead (s : State) : s.draw.2.dead = s.dead := by
  unfold State.draw; split <;> rfl
@[simp] theorem State.draw_stickyErr (s : State) : s.draw.2.stickyErr = s.stickyErr := by
  unfold State.draw; split <;> rfl
@[simp] theorem State.draw_metaEnc (s : State) : s.draw.2.metaEnc = s.metaEnc := by
  unfold State.draw; split <;> rfl
@[simp] theorem State.draw_metaDd (s : State) : s.draw.2.metaDd = s.metaDd := by
  unfold State.draw; split <;> rfl
@[simp] theorem State.draw_metaModtime (s : State) : s.draw.2.metaModtime = s.metaModtime := by
  unfold State.draw; split <;> rfl
@[simp] theorem State.draw_metaCrc (s : State) : s.draw.2.metaCrc = s.metaCrc := by
  unfold State.draw; split <;> rfl
@[simp] theorem State.draw_out (s : State) : s.draw.2.out = s.out := by
  unfold State.draw; split <;> rfl
@[simp] theorem State.draw_resp (s : State) : s.draw.2.resp = s.resp := by
  unfold State.draw; split <;> rfl
@[simp] theorem State.draw_entropyPort (s : State) : s.draw.2.entropyPort = s.entropyPort := by
  unfold State.draw; split <;> rfl
@[simp] theorem State.draw_host (s : State) : s.draw.2.host = s.host := by
  unfold State.draw; split <;> rfl

@[simp] theorem State.respond_vbyte (s : State) (d : Word) : (s.respond d).vbyte = s.vbyte := rfl
@[simp] theorem State.raise_vbyte (s : State) (f : FaultCode) : (s.raise f).vbyte = s.vbyte := rfl
@[simp] theorem State.setKeys_vbyte (s : State) (k : Keys) : (s.setKeys k).vbyte = s.vbyte := rfl
@[simp] theorem State.setHdrCnt_vbyte (s : State) (n : BitVec 4) : (s.setHdrCnt n).vbyte = s.vbyte := rfl
@[simp] theorem State.setDead_vbyte (s : State) : (s.setDead).vbyte = s.vbyte := rfl
@[simp] theorem State.openAs_vbyte (s : State) (r : Role) (v : Bool) : (s.openAs r v).vbyte = s.vbyte := rfl
@[simp] theorem State.closeAdapter_vbyte (s : State) : (s.closeAdapter).vbyte = s.vbyte := rfl
@[simp] theorem State.emit_vbyte (s : State) (b : Byte) : (s.emit b).vbyte = s.vbyte := rfl
@[simp] theorem State.drain_vbyte (s : State) (n : Nat) : (s.drain n).vbyte = s.vbyte := rfl
@[simp] theorem State.present_vbyte (s : State) (w : CmdWord) : (s.present w).vbyte = s.vbyte := rfl

@[simp] theorem State.draw_entropy (s : State) : s.draw.2.entropy = s.entropy.tail := by
  unfold State.draw; split <;> simp [*]

end Sys2Proof.Machine
end

