-- ==== Sys2Proof/Laws/Ops.lean ====
section
/-! SUPPORT. One lemma per shared operation that says everything it does: draws, the header generation, the header byte of
a decrypting stream, the register read, the host's next event. -/
namespace Sys2Proof.Machine

/-- One draw, with the port's list and the free value told apart. -/
theorem State.draw_eq (s : State) :
    s.draw = (s.entropy.headD (Config.entropy s.entropyPort s.draws),
      { s with entropy := s.entropy.tail, draws := s.draws + if s.entropy = [] then 1 else 0 }) := by
  unfold State.draw
  split <;> simp [*]

theorem State.drawN_length (n : Nat) (s : State) : (s.drawN n).1.length = n := by
  induction n generalizing s with
  | zero => rfl
  | succ n ih => simp [State.drawN, ih]

/-- `n` draws change only the port's list and the count of free draws. -/
theorem State.drawN_state (n : Nat) (s : State) :
    (s.drawN n).2 =
      { s with entropy := s.entropy.drop n, draws := s.draws + (n - s.entropy.length) } := by
  induction n generalizing s with
  | zero => simp [State.drawN]
  | succ n ih =>
    rw [State.drawN, ih, State.draw_eq]
    cases h : s.entropy with
    | nil => simp; omega
    | cons b rest => simp

/-- A port that lists at least `n` bytes gives its first `n`. -/
theorem State.drawN_of_listed (n : Nat) (s : State) (h : n ≤ s.entropy.length) :
    (s.drawN n).1 = s.entropy.take n := by
  induction n generalizing s with
  | zero => simp [State.drawN]
  | succ n ih =>
    cases he : s.entropy with
    | nil => simp [he] at h
    | cons b rest =>
      have hd : s.draw = (b, { s with entropy := rest }) := by simp [State.draw, he]
      rw [State.drawN, hd, ih _ (by simpa [he] using h)]
      simp

@[simp] theorem encBytes_length (k : Keys) (ps : List Byte) : (encBytes k ps).1.length = ps.length := by
  induction ps generalizing k with
  | nil => rfl
  | cons p ps ih => simp [encBytes, ih]

@[simp] theorem encBytes_keys (k : Keys) (ps : List Byte) : (encBytes k ps).2 = updateAll k ps := by
  induction ps generalizing k with
  | nil => rfl
  | cons p ps ih => simp [encBytes, ih, updateAll, encByte]

/-- Encrypting and emitting a byte sequence writes the keys and appends to OUT, nothing else. -/
theorem State.foldl_encEmit (ps : List Byte) (s : State) :
    ps.foldl State.encEmit s =
      { s with keys := updateAll s.keys ps, out := s.out ++ (encBytes s.keys ps).1 } := by
  induction ps generalizing s with
  | nil => simp [updateAll, encBytes]
  | cons p ps ih =>
    rw [List.foldl_cons, ih]
    simp [State.encEmit, State.setKeys, State.emit, encBytes, encByte, updateAll]

/-- The twelve plaintext header bytes (R201): eleven drawn bytes, then the verification byte. -/
def State.headerPlain (s : State) : List Byte := (s.drawN Config.saltLen).1 ++ [s.vbyte]

theorem State.headerPlain_length (s : State) : s.headerPlain.length = 12 := by
  simp [State.headerPlain, State.drawN_length, Config.saltLen]

/-- Everything the header generation does (R201). -/
theorem State.emitHeader_eq (s : State) :
    s.emitHeader =
      { s with
        keys := updateAll s.keys s.headerPlain
        out := s.out ++ (encBytes s.keys s.headerPlain).1
        hdrCnt := 12#4
        entropy := s.entropy.drop 11
        draws := s.draws + (11 - s.entropy.length) } := by
  unfold State.emitHeader State.headerPlain
  simp only [State.foldl_encEmit, State.drawN_state]
  rfl

/-- The header byte of a decrypting stream (R173, R174): either INVALID_PASSWORD with DEAD set, or OK. -/
theorem State.headerByte_eq (s : State) (p : Byte) :
    s.headerByte p =
      if s.hdrCnt + 1#4 = 12#4 ∧ s.verify = true ∧ p ≠ s.vbyte then
        (s.setHdrCnt (s.hdrCnt + 1#4)).setDead.raise .invalidPassword
      else (s.setHdrCnt (s.hdrCnt + 1#4)).respond 0 := rfl

/-- A register read answers exactly for the indices 0 to 5 (R46). -/
theorem State.readReg_isSome (s : State) (i : Byte) : (s.readReg i).isSome = decide (i ≤ 0x05#8) := by
  rw [Bool.eq_iff_iff, decide_eq_true_iff, BitVec.le_def]
  unfold State.readReg
  split <;> simp_all
  omega

/-- The next event is run on the state with that event taken off the host's list. -/
theorem runNext_cons (s : State) (e : HostEvent) (rest : List HostEvent) (h : s.host = e :: rest) :
    runNext s = runEvent e { s with host := rest } := by
  simp [runNext, h]

theorem runNext_nil (s : State) (h : s.host = []) : runNext s = .next s := by
  simp [runNext, h]

end Sys2Proof.Machine
end

