-- ==== Sys2Proof/Laws/Exec.lean ====
section
/-! SUPPORT. The one inversion lemma of `exec`: everything a command can do when it answers a next state. Later proofs take
`Effect` apart instead of unfolding the 21 meanings. -/
namespace Sys2Proof.Machine

/-- The state check a command makes first, where it fails (the `raise BAD_STATE` lines of the command rules). -/
def wrongPhase (i : Instr) (s : State) : Prop :=
  match i with
  | .close | .rdreg _ => False
  | .pwb _ => s.role = .none ∨ s.hdrCnt ≠ 0#4
  | .dbyte _ => s.role ≠ .dec
  | .ebyte _ | .ehdr => s.role ≠ .enc
  | _ => s.role ≠ .none

/-- The commands that raise ADAPTER_DEAD (R274). -/
def movesData (i : Instr) : Prop :=
  (∃ c, i = .dbyte c) ∨ (∃ p, i = .ebyte p) ∨ i = .ehdr

/-- The ways a command ends, one constructor per outcome of its rule. The first five are the faults that change nothing but
STICKY_ERR and the response (R270). -/
inductive Effect : Instr → State → State → Prop where
  | illegal (i : Instr) (s : State) (ill : i.wf = false) : Effect i s (s.raise .illegalCmd)
  | badState (i : Instr) (s : State) (wrong : wrongPhase i s) : Effect i s (s.raise .badState)
  | adapterDead (i : Instr) (s : State) (stream : movesData i) (right : ¬ wrongPhase i s) (dead : s.dead = true) :
      Effect i s (s.raise .adapterDead)
  | notEncrypted (s : State) (raw : s.role = .none) (enc : s.metaEnc = false) :
      Effect .openDec s (s.raise .notEncrypted)
  | encFlagNotSet (s : State) (raw : s.role = .none) (enc : s.metaEnc = false) :
      Effect .openEnc s (s.raise .encFlagNotSet)
  | kinit (s : State) (raw : s.role = .none) : Effect .kinit s ((s.setKeys Keys.init).respond 0)
  | kupd (s : State) (b : Byte) (raw : s.role = .none) :
      Effect (.kupd b) s ((s.setKeys (update s.keys b)).respond 0)
  | ksb (s : State) (raw : s.role = .none) : Effect .ksb s (s.respond (zext32 (ksByte s.keys.k2)))
  | kenc (s : State) (p : Byte) (raw : s.role = .none) :
      Effect (.kenc p) s ((s.setKeys (encByte s.keys p).2).respond (zext32 (encByte s.keys p).1))
  | kdec (s : State) (c : Byte) (raw : s.role = .none) :
      Effect (.kdec c) s ((s.setKeys (decByte s.keys c).2).respond (zext32 (decByte s.keys c).1))
  | openDec (s : State) (raw : s.role = .none) (enc : s.metaEnc = true) :
      Effect .openDec s ((s.openAs .dec true).respond 0)
  | openDecNv (s : State) (raw : s.role = .none) : Effect .openDecNv s ((s.openAs .dec false).respond 0)
  | openEnc (s : State) (raw : s.role = .none) (enc : s.metaEnc = true) :
      Effect .openEnc s ((s.openAs .enc false).respond 0)
  | pwb (s : State) (b : Byte) (isOpen : s.role ≠ .none) (keying : s.hdrCnt = 0#4) :
      Effect (.pwb b) s ((s.setKeys (update s.keys b)).respond 0)
  | dbyteInvalid (s : State) (c : Byte) (dec : s.role = .dec) (alive : s.dead = false) (last : s.hdrCnt = 11#4)
      (verify : s.verify = true) (differs : (decByte s.keys c).1 ≠ s.vbyte) :
      Effect (.dbyte c) s (((s.setKeys (decByte s.keys c).2).setHdrCnt 12#4).setDead.raise .invalidPassword)
  | dbyteHeader (s : State) (c : Byte) (dec : s.role = .dec) (alive : s.dead = false) (more : s.hdrCnt < 12#4)
      (accepted : ¬ (s.hdrCnt = 11#4 ∧ s.verify = true ∧ (decByte s.keys c).1 ≠ s.vbyte)) :
      Effect (.dbyte c) s (((s.setKeys (decByte s.keys c).2).setHdrCnt (s.hdrCnt + 1#4)).respond 0)
  | dbytePayload (s : State) (c : Byte) (dec : s.role = .dec) (alive : s.dead = false) (done : ¬ s.hdrCnt < 12#4) :
      Effect (.dbyte c) s (((s.setKeys (decByte s.keys c).2).emit (decByte s.keys c).1).respond 0)
  | ebyte (s : State) (p : Byte) (enc : s.role = .enc) (alive : s.dead = false) :
      Effect (.ebyte p) s ((s.headerIfDue.encEmit p).respond 0)
  | ehdr (s : State) (enc : s.role = .enc) (alive : s.dead = false) : Effect .ehdr s (s.headerIfDue.respond 0)
  | close (s : State) : Effect .close s (s.closeAdapter.respond 0)
  | mflags (s : State) (f : Byte) (raw : s.role = .none) (legal : f.extractLsb' 2 6 = 0#6) :
      Effect (.mflags f) s ((s.setFlags (flagEnc f) (flagDd f)).respond 0)
  | mtimeLo (s : State) (b : Byte) (raw : s.role = .none) :
      Effect (.mtimeLo b) s ((s.setModtime (setLow16 s.metaModtime b)).respond 0)
  | mtimeHi (s : State) (b : Byte) (raw : s.role = .none) :
      Effect (.mtimeHi b) s ((s.setModtime (setHigh16 s.metaModtime b)).respond 0)
  | mcrc0 (s : State) (b : Byte) (raw : s.role = .none) :
      Effect (.mcrc0 b) s ((s.setCrc (setByte0 s.metaCrc b)).respond 0)
  | mcrc1 (s : State) (b : Byte) (raw : s.role = .none) :
      Effect (.mcrc1 b) s ((s.setCrc (setByte1 s.metaCrc b)).respond 0)
  | mcrc2 (s : State) (b : Byte) (raw : s.role = .none) :
      Effect (.mcrc2 b) s ((s.setCrc (setByte2 s.metaCrc b)).respond 0)
  | mcrc3 (s : State) (b : Byte) (raw : s.role = .none) :
      Effect (.mcrc3 b) s ((s.setCrc (setByte3 s.metaCrc b)).respond 0)
  | rdreg (s : State) (n : Byte) (v : Word) (names : s.readReg n = some v) : Effect (.rdreg n) s (s.respond v)

theorem hdrCnt_succ_eq_last (n : BitVec 4) : n + 1#4 = 12#4 ↔ n = 11#4 := by
  revert n; decide

/-- What DBYTE does past its checks. -/
theorem Effect.of_headerByte (s : State) (c : Byte) (dec : s.role = .dec) (alive : s.dead = false)
    (more : s.hdrCnt < 12#4) :
    Effect (.dbyte c) s ((s.setKeys (decByte s.keys c).2).headerByte (decByte s.keys c).1) := by
  rw [State.headerByte_eq]
  split
  case isTrue h =>
    have last := (hdrCnt_succ_eq_last _).1 h.1
    rw [h.1]
    exact .dbyteInvalid s c dec alive last h.2.1 h.2.2
  case isFalse h =>
    exact .dbyteHeader s c dec alive more fun hc => h ⟨(hdrCnt_succ_eq_last _).2 hc.1, hc.2⟩

/-- Every next state of `exec` is one of the outcomes of `Effect`. -/
theorem exec_effect (i : Instr) (s t : State) (h : exec i s = .next t) : Effect i s t := by
  cases i
  case dbyte c =>
    simp only [exec, execDbyte] at h
    split at h
    case isTrue hdec => cases h; exact .badState _ _ hdec
    case isFalse hdec =>
      have dec : s.role = .dec := by simpa using hdec
      split at h
      case isTrue dead => cases h; exact .adapterDead _ _ (.inl ⟨c, rfl⟩) hdec dead
      case isFalse halive =>
        have alive : s.dead = false := by simpa using halive
        split at h
        case isTrue more => cases h; exact .of_headerByte s c dec alive more
        case isFalse done => cases h; exact .dbytePayload s c dec alive done
  case rdreg n =>
    simp only [exec, execRdreg] at h
    split at h
    case h_1 v hv => cases h; exact .rdreg s n v hv
    case h_2 hn =>
      cases h
      have := State.readReg_isSome s n
      exact .illegal _ _ (by simpa [Instr.wf, hn] using this)
  case mflags f =>
    simp only [exec, execMflags] at h
    split at h
    case isTrue ill => cases h; exact .illegal _ _ (by simpa [Instr.wf] using ill)
    case isFalse legal =>
      split at h
      case isTrue wrong => cases h; exact .badState _ _ wrong
      case isFalse right => cases h; exact .mflags s f (by simpa using right) (by simpa using legal)
  all_goals
    simp only [exec, execKinit, execKupd, execKsb, execKenc, execKdec, execOpenDec, execOpenDecNv, execOpenEnc, execPwb,
      execEbyte, execEhdr, execClose, execMtimeLo, execMtimeHi, execMcrc0, execMcrc1, execMcrc2, execMcrc3] at h
    (repeat' split at h) <;> cases h <;>
      first
        | (apply Effect.badState; assumption)
        | (refine Effect.adapterDead _ _ ?_ ?_ ?_ <;> first | assumption | simp [movesData])
        | (constructor <;> simp_all)

end Sys2Proof.Machine
end

