-- ==== Sys2Proof/Laws/Operands.lean ====
section
/-! SUPPORT. The field writes `X[hi:lo] <- b` bit by bit: bits `hi..lo` are the byte's, every other bit is X's
(spec/00_scope.md R16). -/
namespace Sys2Proof.Machine

theorem setLow16_bit (x : BitVec 16) (b : Byte) (k : Nat) :
    (setLow16 x b).getLsbD k = if k < 8 then b.getLsbD k else x.getLsbD k := by
  unfold setLow16
  rw [BitVec.getLsbD_append]
  by_cases h : k < 8
  · simp [h]
  · by_cases h2 : k < 16
    · simp [h, show k - 8 < 8 by omega, show 8 + (k - 8) = k by omega]
    · simp [h, show ¬ k - 8 < 8 by omega, BitVec.getLsbD_of_ge x k (by omega)]

theorem setHigh16_bit (x : BitVec 16) (b : Byte) (k : Nat) :
    (setHigh16 x b).getLsbD k = if 8 ≤ k ∧ k < 16 then b.getLsbD (k - 8) else x.getLsbD k := by
  unfold setHigh16
  rw [BitVec.getLsbD_append]
  by_cases h : k < 8
  · simp [h, show ¬ 8 ≤ k by omega]
  · by_cases h2 : k < 16
    · simp [h, h2, show 8 ≤ k by omega]
    · simp [h, h2, BitVec.getLsbD_of_ge x k (by omega), BitVec.getLsbD_of_ge b (k - 8) (by omega)]

theorem setByte0_bit (x : BitVec 32) (b : Byte) (k : Nat) :
    (setByte0 x b).getLsbD k = if k < 8 then b.getLsbD k else x.getLsbD k := by
  unfold setByte0
  rw [BitVec.getLsbD_append]
  by_cases h : k < 8
  · simp [h]
  · by_cases h2 : k < 32
    · simp [h, show k - 8 < 24 by omega, show 8 + (k - 8) = k by omega]
    · simp [h, show ¬ k - 8 < 24 by omega, BitVec.getLsbD_of_ge x k (by omega)]

theorem setByte1_bit (x : BitVec 32) (b : Byte) (k : Nat) :
    (setByte1 x b).getLsbD k = if 8 ≤ k ∧ k < 16 then b.getLsbD (k - 8) else x.getLsbD k := by
  unfold setByte1
  rw [BitVec.getLsbD_append, BitVec.getLsbD_append]
  by_cases h : k < 8
  · simp [h, show ¬ 8 ≤ k by omega]
  · by_cases h2 : k < 16
    · simp [h, h2, show k - 8 < 8 by omega, show 8 ≤ k by omega]
    · by_cases h3 : k < 32
      · simp [h, h2, show ¬ k - 8 < 8 by omega, show k - 8 - 8 < 16 by omega, show 16 + (k - 8 - 8) = k by omega]
      · simp [h, h2, show ¬ k - 8 < 8 by omega, show ¬ k - 8 - 8 < 16 by omega, BitVec.getLsbD_of_ge x k (by omega)]

theorem setByte2_bit (x : BitVec 32) (b : Byte) (k : Nat) :
    (setByte2 x b).getLsbD k = if 16 ≤ k ∧ k < 24 then b.getLsbD (k - 16) else x.getLsbD k := by
  unfold setByte2
  rw [BitVec.getLsbD_append, BitVec.getLsbD_append]
  by_cases h : k < 16
  · simp [h, show ¬ 16 ≤ k by omega]
  · by_cases h2 : k < 24
    · simp [h, h2, show k - 16 < 8 by omega, show 16 ≤ k by omega]
    · by_cases h3 : k < 32
      · simp [h, h2, show ¬ k - 16 < 8 by omega, show k - 16 - 8 < 8 by omega, show 24 + (k - 16 - 8) = k by omega]
      · simp [h, h2, show ¬ k - 16 < 8 by omega, show ¬ k - 16 - 8 < 8 by omega, BitVec.getLsbD_of_ge x k (by omega)]

theorem setByte3_bit (x : BitVec 32) (b : Byte) (k : Nat) :
    (setByte3 x b).getLsbD k = if 24 ≤ k ∧ k < 32 then b.getLsbD (k - 24) else x.getLsbD k := by
  unfold setByte3
  rw [BitVec.getLsbD_append]
  by_cases h : k < 24
  · simp [h, show ¬ 24 ≤ k by omega]
  · by_cases h2 : k < 32
    · simp [h, h2, show 24 ≤ k by omega]
    · simp [h, h2, BitVec.getLsbD_of_ge x k (by omega), BitVec.getLsbD_of_ge b (k - 24) (by omega)]

end Sys2Proof.Machine
end

