-- ==== Sys2Proof/Laws/PerInstr.lean ====
section
/-! SUPPORT. The per-instruction family `EncodeFields`: the word of an instruction holds its opcode in bits 15:8 and its
operand in bits 7:0 (spec/30_encoding.md R100), and its opcode is an assigned one (R103). -/
namespace Sys2Proof.Laws.EncodeFields

/-- Both fields of the instruction's word, and the assigned opcodes of R103. -/
def Statement (i : Instr) : Prop :=
  opField (encode i) = opcodeOf i ∧ dataField (encode i) = dataOf i ∧
  (opcodeOf i).toNat ∈ [0x01, 0x02, 0x03, 0x04, 0x05, 0x10, 0x11, 0x12, 0x13, 0x14, 0x15, 0x16, 0x17,
    0x20, 0x21, 0x22, 0x23, 0x24, 0x25, 0x26, 0x30]

/-- The fields of `{OP, DATA}` are OP and DATA. -/
theorem fields_append (op d : Byte) : opField (op ++ d) = op ∧ dataField (op ++ d) = d := by
  constructor
  · change BitVec.extractLsb' 8 8 (HAppend.hAppend op d : BitVec (8 + 8)) = op
    ext k hk
    rw [BitVec.getElem_extractLsb', BitVec.getLsbD_append]
    simp [hk]
  · change BitVec.extractLsb' 0 8 (HAppend.hAppend op d : BitVec (8 + 8)) = d
    ext k hk
    rw [BitVec.getElem_extractLsb', BitVec.getLsbD_append]
    simp [hk]

/-- What is left for one instruction is that its opcode is on the list. -/
theorem of_opcode (i : Instr) (h : (opcodeOf i).toNat ∈ [0x01, 0x02, 0x03, 0x04, 0x05, 0x10, 0x11, 0x12, 0x13, 0x14,
    0x15, 0x16, 0x17, 0x20, 0x21, 0x22, 0x23, 0x24, 0x25, 0x26, 0x30]) : Statement i :=
  ⟨(fields_append _ _).1, (fields_append _ _).2, h⟩

theorem kinit : Statement .kinit := of_opcode _ (by simp [opcodeOf])
theorem kupd (b : Byte) : Statement (.kupd b) := of_opcode _ (by simp [opcodeOf])
theorem ksb : Statement .ksb := of_opcode _ (by simp [opcodeOf])
theorem kenc (p : Byte) : Statement (.kenc p) := of_opcode _ (by simp [opcodeOf])
theorem kdec (c : Byte) : Statement (.kdec c) := of_opcode _ (by simp [opcodeOf])
theorem openDec : Statement .openDec := of_opcode _ (by simp [opcodeOf])
theorem openDecNv : Statement .openDecNv := of_opcode _ (by simp [opcodeOf])
theorem openEnc : Statement .openEnc := of_opcode _ (by simp [opcodeOf])
theorem pwb (b : Byte) : Statement (.pwb b) := of_opcode _ (by simp [opcodeOf])
theorem dbyte (c : Byte) : Statement (.dbyte c) := of_opcode _ (by simp [opcodeOf])
theorem ebyte (p : Byte) : Statement (.ebyte p) := of_opcode _ (by simp [opcodeOf])
theorem ehdr : Statement .ehdr := of_opcode _ (by simp [opcodeOf])
theorem close : Statement .close := of_opcode _ (by simp [opcodeOf])
theorem mflags (f : Byte) : Statement (.mflags f) := of_opcode _ (by simp [opcodeOf])
theorem mtimeLo (b : Byte) : Statement (.mtimeLo b) := of_opcode _ (by simp [opcodeOf])
theorem mtimeHi (b : Byte) : Statement (.mtimeHi b) := of_opcode _ (by simp [opcodeOf])
theorem mcrc0 (b : Byte) : Statement (.mcrc0 b) := of_opcode _ (by simp [opcodeOf])
theorem mcrc1 (b : Byte) : Statement (.mcrc1 b) := of_opcode _ (by simp [opcodeOf])
theorem mcrc2 (b : Byte) : Statement (.mcrc2 b) := of_opcode _ (by simp [opcodeOf])
theorem mcrc3 (b : Byte) : Statement (.mcrc3 b) := of_opcode _ (by simp [opcodeOf])
theorem rdreg (i : Byte) : Statement (.rdreg i) := of_opcode _ (by simp [opcodeOf])

end Sys2Proof.Laws.EncodeFields
end

