-- ==== Sys2Proof/Tests/Slice0.lean ====
section
/-! SUPPORT. Tests with the values of spec/95_test_vectors.md and the examples of the command rules, and one witness
theorem for each statement that has hypotheses (`test_meets_<statement>`), a conjunct per clause. -/
namespace Sys2Proof.Tests
open Sys2Proof.Machine

/-! ### Small states and readers of an answer -/

/-- The next state of an answer. -/
def next? (o : Result) : Option State :=
  match o with
  | .next t => some t
  | _ => none

/-- The next state of a command, the state itself where there is none. -/
def after (i : Instr) (s : State) : State := (next? (exec i s)).getD s

/-- Response status, response data and STATUS after a word (the columns of section 4). -/
def answer (w : CmdWord) (s : State) : Option (BitVec 4 × Word × Word) :=
  (next? (runWord w s)).map fun t => (t.resp.status, t.resp.data, t.status)

/-- INIT("secret") (section 2.4). -/
def secret : Keys := ⟨0xDDA9E469#32, 0x96212999#32, 0xF9FC9651#32⟩

/-- The entropy bytes of program P2. -/
def salt2 : List Byte :=
  [0x00#8, 0x01#8, 0x02#8, 0x03#8, 0x04#8, 0x05#8, 0x06#8, 0x07#8, 0x08#8, 0x09#8, 0x0A#8]

/-- Raw mode with the metadata of P2. -/
def rawS : State := { State.reset with metaEnc := true, metaCrc := 0x12345678#32 }

/-- An encrypting stream of P2 after its password. -/
def encS : State := { rawS with role := .enc, keys := secret, entropy := salt2 }

/-- A verifying decrypting stream of P3 after its password. -/
def decS : State := { rawS with role := .dec, verify := true, keys := secret }

/-- The same stream after 11 header bytes (row 10 of section 3.1). -/
def dec11 : State := { decS with hdrCnt := 11#4, keys := ⟨0x06256DC1#32, 0x033E15C3#32, 0x24E4AE71#32⟩ }

/-- The same stream in its payload (row 11 of section 3.1). -/
def dec12 : State := { decS with hdrCnt := 12#4, keys := ⟨0x1FDCA603#32, 0xF1A084DF#32, 0xED9C678E#32⟩ }

/-- Under the password "wrong" after 11 header bytes (row 10 of section 3.2). -/
def wrong11 : State := { dec11 with keys := ⟨0x766DBFFA#32, 0x0AE4068F#32, 0xDBFBD3FF#32⟩ }

/-- The DEAD phase that follows (P4). -/
def deadS : State :=
  { dec12 with dead := true, stickyErr := 6#4, keys := ⟨0xBB7D2ABC#32, 0x5C8ED078#32, 0x4F040981#32⟩ }

/-- `s` with the events `es` pending. -/
def pending (es : List HostEvent) (s : State) : State := { s with host := es }

/-! ### Well-formedness: an ill-formed term for each check -/

theorem test_wf_mflags_reserved : ¬ (Instr.mflags 0x04#8).WellFormed ∧ (Instr.mflags 0x03#8).WellFormed := by decide
theorem test_wf_rdreg_index : ¬ (Instr.rdreg 0x06#8).WellFormed ∧ (Instr.rdreg 0x05#8).WellFormed := by decide

/-! ### Decoding: a word of each command, from the table of R102 -/

theorem test_decode_kinit : decodeTableWord 16 0x0100 = some .kinit := by decide
theorem test_decode_kupd : decodeTableWord 16 0x0270 = some (.kupd 0x70#8) := by decide
theorem test_decode_ksb : decodeTableWord 16 0x0300 = some .ksb := by decide
theorem test_decode_kenc : decodeTableWord 16 0x0441 = some (.kenc 0x41#8) := by decide
theorem test_decode_kdec : decodeTableWord 16 0x05AB = some (.kdec 0xAB#8) := by decide
theorem test_decode_openDec : decodeTableWord 16 0x1000 = some .openDec := by decide
theorem test_decode_openDecNv : decodeTableWord 16 0x1100 = some .openDecNv := by decide
theorem test_decode_openEnc : decodeTableWord 16 0x1200 = some .openEnc := by decide
theorem test_decode_pwb : decodeTableWord 16 0x1373 = some (.pwb 0x73#8) := by decide
theorem test_decode_dbyte : decodeTableWord 16 0x14C8 = some (.dbyte 0xC8#8) := by decide
theorem test_decode_ebyte : decodeTableWord 16 0x1568 = some (.ebyte 0x68#8) := by decide
theorem test_decode_ehdr : decodeTableWord 16 0x1600 = some .ehdr := by decide
theorem test_decode_close : decodeTableWord 16 0x1700 = some .close := by decide
theorem test_decode_mflags : decodeTableWord 16 0x2002 = some (.mflags 0x02#8) := by decide
theorem test_decode_mtimeLo : decodeTableWord 16 0x2134 = some (.mtimeLo 0x34#8) := by decide
theorem test_decode_mtimeHi : decodeTableWord 16 0x2212 = some (.mtimeHi 0x12#8) := by decide
theorem test_decode_mcrc0 : decodeTableWord 16 0x23DD = some (.mcrc0 0xDD#8) := by decide
theorem test_decode_mcrc1 : decodeTableWord 16 0x24CC = some (.mcrc1 0xCC#8) := by decide
theorem test_decode_mcrc2 : decodeTableWord 16 0x25BB = some (.mcrc2 0xBB#8) := by decide
theorem test_decode_mcrc3 : decodeTableWord 16 0x26AA = some (.mcrc3 0xAA#8) := by decide
theorem test_decode_rdreg : decodeTableWord 16 0x3004 = some (.rdreg 0x04#8) := by decide
theorem test_decode_illegal : decodeTableWord 16 0x0600 = none ∧ decodeTableWord 16 0xFFFF = none := by decide

/-! ### One step of each command -/

/-- Section 2.1 and section 2.3. -/
theorem test_lut : lut 0x08#8 = 0x0EDB8832#32 ∧ lut 0xB1#8 = 0xBC66831A#32 ∧ lut 0xC0#8 = 0x9B64C2B0#32 := by decide
theorem test_ksByte : ksByte 0x00000100#32 = 0x05#8 ∧ ksByte 0x0000FF00#32 = 0xFB#8 ∧ ksByte 0x0000FFFD#32 = 0x00#8 := by
  decide +kernel

/-- R140. -/
theorem test_kinit : (after .kinit { State.reset with keys := secret }).keys = State.reset.keys := by decide
/-- Section 2.2, the all-ones row. -/
theorem test_kupd : (after (.kupd 0xFF#8)
    { State.reset with keys := ⟨0xFFFFFFFF#32, 0xFFFFFFFF#32, 0xFFFFFFFF#32⟩ }).keys =
    ⟨0x00FFFFFF#32, 0xF872FCF7#32, 0x9E9B6A5C#32⟩ := by decide +kernel
/-- Section 4: a raw command while an adapter is open. -/
theorem test_kupd_open : answer 0x0201#16 (after .openDecNv State.reset) = some (2#4, 0#32, 0x00002001#32) := by decide +kernel
/-- Program P1's KSB. -/
theorem test_ksb : (after .ksb { State.reset with keys := ⟨0xEA9B4E4D#32, 0xBA789085#32, 0x5FF8707D#32⟩ }).resp =
    ⟨0#4, 0xEE#32⟩ := by decide +kernel
/-- Section 2.5. -/
theorem test_kenc : let t := after (.kenc 0x41#8) (after (.kenc 0x00#8) State.reset)
    t.resp = ⟨0#4, 0x5B#32⟩ ∧ t.keys = ⟨0x6435640D#32, 0x0A3E8540#32, 0x04B07912#32⟩ := by decide +kernel
theorem test_kdec : let t := after (.kdec 0x5B#8) (after (.kdec 0xAB#8) State.reset)
    t.resp = ⟨0#4, 0x41#32⟩ ∧ t.keys = ⟨0x6435640D#32, 0x0A3E8540#32, 0x04B07912#32⟩ := by decide +kernel
/-- R171 and section 4. -/
theorem test_openDec : answer 0x1000#16 rawS = some (0#4, 0#32, 0x00000005#32) ∧
    answer 0x1001#16 decS = some (1#4, 0#32, 0x00001005#32) := by decide +kernel
theorem test_openDec_faults : answer 0x1000#16 State.reset = some (4#4, 0#32, 0x00004000#32) ∧
    answer 0x1000#16 (after .openDecNv State.reset) = some (2#4, 0#32, 0x00002001#32) := by decide +kernel
/-- R172. -/
theorem test_openDecNv : answer 0x1100#16 State.reset = some (0#4, 0#32, 0x00000001#32) := by decide +kernel
/-- R200 and section 4. -/
theorem test_openEnc : answer 0x1200#16 rawS = some (0#4, 0#32, 0x00000002#32) ∧
    answer 0x1200#16 State.reset = some (5#4, 0#32, 0x00005000#32) := by decide +kernel
/-- Section 2.4, the password "a"; section 4, a password byte after the first header byte. -/
theorem test_pwb : (after (.pwb 0x61#8) (after .openDecNv State.reset)).keys =
    ⟨0x64799C96#32, 0xB303049C#32, 0xA253270A#32⟩ := by decide +kernel
theorem test_pwb_late : answer 0x1301#16 (after (.dbyte 0x01#8) (after .openDecNv State.reset)) =
    some (2#4, 0#32, 0x00002011#32) := by decide +kernel
/-- Row 11 and the payload rows of section 3.1. -/
theorem test_dbyte : (next? (exec (.dbyte 0xCB#8) dec11)) = some { dec12 with resp := ⟨0#4, 0#32⟩ } ∧
    (after (.dbyte 0x92#8) dec12).out = [0x68#8] := by decide +kernel
/-- Row 11 of section 3.2. -/
theorem test_dbyte_wrong : (next? (exec (.dbyte 0xCB#8) wrong11)) = some { deadS with resp := ⟨6#4, 0#32⟩ } ∧
    answer 0x1400#16 deadS = some (3#4, 0#32, 0x000061CD#32) := by decide +kernel
/-- R202. -/
theorem test_ebyte : let t := after (.ebyte 0x68#8) encS
    t.out = [0xC8#8, 0x88#8, 0xC2#8, 0xBF#8, 0x0D#8, 0xE3#8, 0xA4#8, 0x03#8, 0xF4#8, 0x15#8, 0x32#8, 0xCB#8, 0x92#8] ∧
    t.keys = ⟨0xDA7F6476#32, 0x4F8A6EAA#32, 0xEC8E6E41#32⟩ ∧ t.entropy = [] := by decide +kernel
theorem test_ebyte_dead : answer 0x1500#16 deadS = some (2#4, 0#32, 0x000061CD#32) := by decide +kernel
/-- Program P6, run a. -/
theorem test_ehdr : let t := after .ehdr { State.reset with
      role := .enc, metaEnc := true, metaDd := true, metaModtime := 0x1234#16, metaCrc := 0xAABBCCDD#32
      entropy := salt2.map fun b => b + 0x10#8 }
    t.out = [0xBB#8, 0x9F#8, 0xAC#8, 0x99#8, 0xAD#8, 0x99#8, 0xFE#8, 0x42#8, 0x75#8, 0x15#8, 0xA4#8, 0x63#8] ∧
    t.keys = ⟨0x8B833BFE#32, 0xE33F90B6#32, 0x338109EF#32⟩ ∧ t.status = 0x000001C2#32 := by decide +kernel
theorem test_ehdr_raw : answer 0x1600#16 State.reset = some (2#4, 0#32, 0x00002000#32) := by decide +kernel
/-- R231. -/
theorem test_close : answer 0x1700#16 deadS = some (0#4, 0#32, 0x00006000#32) ∧
    answer 0x1701#16 State.reset = some (1#4, 0#32, 0x00001000#32) := by decide +kernel
/-- Section 5. -/
theorem test_metadata_word : (after (.mtimeHi 0x12#8) (after (.mtimeLo 0x34#8) (after (.mflags 0x03#8) State.reset))).metaWord =
    0x00031234#32 := by decide +kernel
theorem test_mflags_open : answer 0x2001#16 (after .openDecNv State.reset) = some (2#4, 0#32, 0x00002001#32) := by decide +kernel
theorem test_mcrc : (after (.mcrc3 0xAA#8) (after (.mcrc2 0xBB#8) (after (.mcrc1 0xCC#8) (after (.mcrc0 0xDD#8)
    State.reset)))).metaCrc = 0xAABBCCDD#32 := by decide
theorem test_mcrc3_alone : (after (.mcrc3 0xAA#8) State.reset).metaCrc = 0xAA000000#32 := by decide
theorem test_rdreg : answer 0x3001#16 State.reset = some (0#4, 0x23456789#32, 0#32) ∧
    answer 0x3003#16 dec12 = some (0#4, 0x000001C5#32, 0x000001C5#32) := by decide +kernel
theorem test_rdreg_index : answer 0x3006#16 deadS = some (1#4, 0#32, 0x000061CD#32) := by decide +kernel

/-- A draw past the listed bytes is the free value of its number. -/
theorem test_draw : (State.reset.draw).1 = Config.entropy 0 0 ∧ (State.reset.draw).2.draws = 1 := ⟨rfl, rfl⟩

/-- The step runs the word that is presented next. -/
theorem test_step : ((next? (step (State.reset.withFetchWord 16 0x0400))).map fun t => (t.resp, t.host)) =
    some (⟨0#4, 0xAB#32⟩, []) := by decide +kernel
theorem test_step_illegal : ((next? (step (State.reset.withFetchWord 16 0x0000))).map fun t => (t.resp, t.stickyErr)) =
    some (⟨1#4, 0#32⟩, 1#4) := by decide +kernel

/-- R107 and R108 (the words of P2 and P4). -/
theorem test_assemble_command :
    assembleSource ['E', 'B', 'Y', 'T', 'E', ' ', '\'', 'h', '\'', ' ', ';', 'x'] = .ok [0x1568#16] ∧
    assembleSource ['M', 'F', 'L', 'A', 'G', 'S', ' ', 'e', 'n', 'c', '|', 'd', 'd'] = .ok [0x2003#16] ∧
    assembleSource ['R', 'D', 'R', 'E', 'G', ' ', '6'] = .error .outOfRange := by decide +kernel
theorem test_assemble_pseudo :
    assembleSource ['M', 'L', 'O', 'A', 'D', ' ', '1', ',', ' ', '0', ',', '0', 'x', '0', ',', '0', 'x', '1', '2', '3', '4',
      '5', '6', '7', '8'] = .ok [0x2001#16, 0x2100#16, 0x2200#16, 0x2378#16, 0x2456#16, 0x2534#16, 0x2612#16] ∧
    assembleSource ['P', 'A', 'S', 'S', 'W', 'O', 'R', 'D', ' ', '\"', 'w', 'r', '\"'] = .ok [0x1377#16, 0x1372#16] ∧
    assembleSource ['E', 'N', 'C', 'R', 'Y', 'P', 'T'] = .ok [0x1600#16] := by decide +kernel

/-! ### Witnesses: hypotheses that are met together -/

theorem test_meets_EncodeThenDecode : (Instr.kupd 0xFF#8).WellFormed ∧ (Instr.mflags 0x03#8).WellFormed ∧
    (Instr.rdreg 0x05#8).WellFormed := by decide
theorem test_meets_DecodeThenEncode : decode 0x2003#16 = .ok (.mflags 0x03#8) := by decide
theorem test_meets_DecodeChecksInOrder : let ops := [0x01, 0x02, 0x03, 0x04, 0x05, 0x10, 0x11, 0x12, 0x13, 0x14, 0x15, 0x16,
      0x17, 0x20, 0x21, 0x22, 0x23, 0x24, 0x25, 0x26, 0x30]
    let zeroOps := [0x01, 0x03, 0x10, 0x11, 0x12, 0x16, 0x17]
    (0x06#8).toNat ∉ ops ∧ (0x01#8).toNat ∈ zeroOps ∧ 0x01#8 ≠ 0x00#8 ∧ 4 ≤ (0x04#8).toNat ∧ 5 < (0x06#8).toNat ∧
    (0x30#8).toNat ∈ ops ∧ (0x30#8).toNat ∉ zeroOps ∧ (0x05#8).toNat ≤ 5 ∧ (0x20#8).toNat ∈ ops ∧ (0x03#8).toNat < 4 := by decide
theorem test_meets_KeystreamByteSymmetries : (0x00010000#32).extractLsb' 2 14 = (0x3#32).extractLsb' 2 14 ∧
    (0x3#32).extractLsb' 2 14 = 0#14 ∧ (0xFFFC#32).extractLsb' 2 14 = 0x3FFF#14 := by decide
theorem test_meets_DecryptInvertsEncrypt :
    encByte Keys.init 0x00#8 = (0xAB#8, ⟨0x5ECCCD58#32, 0xC0F30B66#32, 0x6B5F078C#32⟩) ∧
    encBytes Keys.init [0x00#8, 0x41#8] = ([0xAB#8, 0x5B#8], ⟨0x6435640D#32, 0x0A3E8540#32, 0x04B07912#32⟩) := by decide +kernel
theorem test_meets_VerificationByte : let s : State := { rawS with metaDd := true, metaModtime := 0x1234#16 }
    let u : State := { rawS with metaCrc := 0xAABBCCDD#32 }
    s.metaDd = true ∧ s.metaModtime = 0x1234#16 ∧ u.metaDd = false ∧ u.metaCrc = 0xAABBCCDD#32 ∧
    rawS.metaDd = decS.metaDd ∧ rawS.metaModtime = decS.metaModtime ∧ rawS.metaCrc = decS.metaCrc := by decide
/-- For KinitRule, KupdRule, KsbRule, KencRule, KdecRule, MtimeRules: raw mode, an open adapter, non-zero DATA. -/
theorem test_meets_rawCommands : State.reset.role = .none ∧ State.reset.keys = State.reset.keys ∧ decS.role ≠ .none ∧
    encS.role ≠ .none ∧ 0x01#8 ≠ 0x00#8 := by decide
theorem test_meets_KsbRule : State.reset.role = .none ∧ exec .ksb State.reset = .next (after .ksb State.reset) := ⟨rfl, rfl⟩
theorem test_meets_OpenDecRule : rawS.role = .none ∧ rawS.metaEnc = true ∧ rawS.stickyErr = 0#4 ∧
    State.reset.role = .none ∧ State.reset.metaEnc = false ∧ encS.role ≠ .none ∧ 0xFF#8 ≠ 0x00#8 ∧
    next? (exec .openDec rawS) = some (after .openDec rawS) := by decide
theorem test_meets_OpenDecNvRule : State.reset.role = .none ∧ State.reset.stickyErr = 0#4 ∧ decS.role ≠ .none ∧
    0x80#8 ≠ 0x00#8 ∧ next? (exec .openDecNv State.reset) = some (after .openDecNv State.reset) := by decide
theorem test_meets_OpenEncRule : rawS.role = .none ∧ rawS.metaEnc = true ∧ rawS.stickyErr = 0#4 ∧
    State.reset.role = .none ∧ State.reset.metaEnc = false ∧ decS.role ≠ .none ∧ 0xFF#8 ≠ 0x00#8 ∧
    next? (exec .openEnc rawS) = some (after .openEnc rawS) := by decide
/-- The boundary counts 10, 11, 12 and 15 of DBYTE, the 12th byte right, wrong and unchecked. -/
theorem test_meets_DbyteRule : encS.role ≠ .dec ∧ deadS.role = .dec ∧ deadS.dead = true ∧
    dec11.role = .dec ∧ dec11.dead = false ∧ ({ dec11 with hdrCnt := 10#4 } : State).hdrCnt.toNat < 11 ∧
    dec11.hdrCnt.toNat = 11 ∧ dec11.verify = true ∧ 0xCB#8 ^^^ ksByte dec11.keys.k2 = dec11.vbyte ∧
    ({ dec11 with verify := false } : State).verify = false ∧
    wrong11.hdrCnt.toNat = 11 ∧ wrong11.verify = true ∧ 0xCB#8 ^^^ ksByte wrong11.keys.k2 ≠ wrong11.vbyte ∧
    12 ≤ dec12.hdrCnt.toNat ∧ 12 ≤ ({ dec12 with hdrCnt := 15#4 } : State).hdrCnt.toNat := by decide +kernel
theorem test_meets_HeaderGeneration : encS.role = .enc ∧ encS.hdrCnt = 0#4 := by decide
/-- For EbyteRule and EhdrRule: the wrong role, DEAD, HDR_CNT 0, 11, 12, and the invariant. -/
theorem test_meets_EbyteRule_EhdrRule : decS.role ≠ .enc ∧ ({ encS with dead := true } : State).role = .enc ∧
    ({ encS with dead := true } : State).dead = true ∧ encS.role = .enc ∧ encS.dead = false ∧ encS.hdrCnt.toNat < 12 ∧
    ({ encS with hdrCnt := 11#4 } : State).hdrCnt.toNat < 12 ∧ 12 ≤ ({ encS with hdrCnt := 12#4 } : State).hdrCnt.toNat ∧
    encS.Inv ∧ 0x01#8 ≠ 0x00#8 := by decide
theorem test_meets_PwbRule : encS.role ≠ .none ∧ encS.hdrCnt = 0#4 ∧ State.reset.role = .none ∧ dec11.hdrCnt ≠ 0#4 ∧
    next? (exec .openEnc rawS) = some (after .openEnc rawS) ∧ (after .openEnc rawS).resp.status = 0#4 := by decide
theorem test_meets_KinitPasswordIsInit : rawS.role = .none := by decide
theorem test_meets_CloseRule : 0x01#8 ≠ 0x00#8 ∧ deadS.status = 0x000061CD#32 ∧
    next? (exec .close deadS) = some (after .close deadS) := by decide
theorem test_meets_MflagsRule : (0x03#8).toNat < 4 ∧ 4 ≤ (0x04#8).toNat ∧ 4 ≤ (0xFF#8).toNat ∧ rawS.role = .none ∧
    encS.role ≠ .none := by decide
theorem test_meets_MtimeRules : let s : State := { rawS with metaDd := true }
    s.role = .none ∧ s.metaDd = true ∧ decS.role ≠ .none ∧
    next? (exec (.mtimeLo 0x34#8) s) = some (after (.mtimeLo 0x34#8) s) ∧
    next? (exec (.mtimeHi 0x12#8) s) = some (after (.mtimeHi 0x12#8) s) := by decide
theorem test_meets_McrcRules : State.reset.role = .none ∧ State.reset.metaCrc = 0#32 ∧ State.reset.metaDd = false ∧
    decS.role ≠ .none ∧ (3, Instr.mcrc3 0xAA#8) ∈ [(0, Instr.mcrc0 0xAA#8), (1, .mcrc1 0xAA#8), (2, .mcrc2 0xAA#8),
      (3, .mcrc3 0xAA#8)] ∧
    next? (exec (.mcrc2 0xAA#8) State.reset) = some (after (.mcrc2 0xAA#8) State.reset) ∧
    next? (exec (.mcrc3 0xAA#8) State.reset) = some (after (.mcrc3 0xAA#8) State.reset) := by decide
theorem test_meets_MloadLoadsMetadata : State.reset.role = .none := by decide
theorem test_meets_RdregRule : (0x05#8).toNat ≤ 5 ∧ 5 < (0x06#8).toNat ∧ State.reset.role = .none := by decide
theorem test_meets_LegalityTable : (Instr.kinit).WellFormed ∧ decS.Inv ∧ deadS.Inv ∧
    legality .kinit decS.role decS.phase = .badState ∧ legality (.dbyte 0x00#8) deadS.role deadS.phase = .adapterDead ∧
    legality (.dbyte 0x00#8) decS.role decS.phase = .ok := by decide
theorem test_meets_FaultPriority : State.reset.Inv ∧ wrong11.Inv ∧ deadS.Inv := ⟨by decide, by decide, by decide⟩
theorem test_meets_FaultEffects :
    (next? (runWord 0x0000#16 State.reset)).map (fun t => t.resp.status) = some 1#4 ∧
    (next? (runWord 0x14CB#16 wrong11)).map (fun t => t.resp.status) = some 6#4 := by decide +kernel
theorem test_meets_StickyErrRecordsFirstFault :
    let s := pending [.command 0x0000#16] { State.reset with stickyErr := 4#4 }
    s.stickyErr ≠ 0#4 ∧ s.host.head? ≠ some .reset ∧ (next? (step s)).isSome = true ∧
    (pending [.reset] deadS).host.head? = some .reset ∧ (next? (step (pending [.reset] deadS))).isSome = true := by decide +kernel
theorem test_meets_StickyErrHasNoEffect : Instr.rdreg 4#8 ≠ .rdreg 3#8 ∧
    next? (exec (.rdreg 4#8) deadS) = some (after (.rdreg 4#8) deadS) := by decide +kernel
theorem test_meets_ResponseOfEveryCommand : decode 0x0101#16 = .error .nonZeroData := by decide
theorem test_meets_DeadUntilClose : deadS.Inv ∧ deadS.dead = true ∧ Instr.ksb ≠ .close ∧
    (after (.rdreg 3#8) deadS).resp.status = 0#4 := by decide +kernel
theorem test_meets_KeysWrittenOnlyByNamedCommands : writesKeys .ksb = false ∧
    next? (exec .ksb State.reset) = some (after .ksb State.reset) := by decide +kernel
theorem test_meets_MetadataFrozenWhileOpen : loadsMeta (.dbyte 0x92#8) = false ∧ dec12.role ≠ .none ∧
    next? (exec (.mcrc0 0x01#8) dec12) = some (after (.mcrc0 0x01#8) dec12) := by decide +kernel
/-- For OutIsAppendOnly and EntropyDrawnOnlyForHeader: a header, and no header. -/
theorem test_meets_OutIsAppendOnly : emitCount (.ebyte 0x68#8) encS = 13 ∧ makesHeader .ehdr encS = true ∧
    makesHeader (.dbyte 0x92#8) dec12 = false ∧
    next? (exec (.ebyte 0x68#8) encS) = some (after (.ebyte 0x68#8) encS) := by decide +kernel
theorem test_meets_HdrCntNeverDecreases : next? (exec .close dec12) = some (after .close dec12) ∧
    dec12.hdrCnt = 12#4 ∧ (after .close dec12).hdrCnt = 0#4 := by decide
theorem test_meets_StepRunsDecodedCommand : (pending [.command 0x0270#16, .drain 1] State.reset).host =
      .command 0x0270#16 :: [.drain 1] ∧ decode 0x0270#16 = .ok (.kupd 0x70#8) := by decide
theorem test_meets_StepIllegalWord : (pending [.command 0x2004#16] State.reset).host = .command 0x2004#16 :: [] ∧
    decode 0x2004#16 = .error .flagsReserved := by decide
theorem test_meets_ConcurrentCommandsRefused : (pending [.together 0x0270#16 0x0271#16] State.reset).host =
    .together 0x0270#16 0x0271#16 :: [] := by decide
theorem test_meets_DrainAndIdle : (pending [.drain 3] dec12).host = .drain 3 :: [] ∧ State.reset.host = [] := by decide
theorem test_meets_ResetEvent : (pending [.reset, .drain 1] deadS).host = .reset :: [.drain 1] := by decide
/-- For StepKeepsInv and StepKeepsCodesInRange. -/
theorem test_meets_StepKeepsInv : dec11.Inv ∧ (next? (step (pending [.command 0x14CB#16] dec11))).isSome = true ∧
    dec11.CodesInRange := by decide +kernel
theorem test_meets_ReachableStatesKeepInv : Reachable (pending [.command 0x1100#16] State.reset) ∧
    Reachable (after .openDecNv State.reset) :=
  ⟨.reset [] 0 0 [.command 0x1100#16],
   .step (pending [.command 0x1100#16] State.reset) _ (.reset [] 0 0 [.command 0x1100#16]) rfl⟩
theorem test_meets_CommandsInOrder : step (pending [.command 0x0300#16] State.reset) = .next (after .ksb State.reset) := rfl
theorem test_meets_EnginesAreIndependent : stepEngine [decS, pending [.command 0x0300#16] State.reset] 1 =
    some (.next [decS, after .ksb State.reset]) := rfl
theorem test_meets_RoundTrip : rawS.role = .none ∧ rawS.metaEnc = true ∧ SameMeta rawS { rawS with keys := secret } := by decide
theorem test_meets_AssemblerGivesLegalWords : assembleLine ['K', 'S', 'B'] = .ok (some 0x0300#16) ∧
    assembleSource ['K', 'S', 'B'] = .ok [0x0300#16] ∧ 0x0300#16 ∈ [0x0300#16] := by decide +kernel

end Sys2Proof.Tests
end

section
/-! PROOFS, the state family: runs of commands (R315), the word and the meaning of RDREG (R46, R239), the fields of STATUS
and META (R47, R48), the reset values (R50). -/
namespace Sys2Proof.Machine

/-! ### Raised faults and decoded words -/

/-- What `raise` leaves is the fault state of the statements (R270, R280). -/
theorem State.raise_eq_faulted (s : State) (f : FaultCode) : s.raise f = s.faulted f.code := rfl

/-- The decoder reads OP and DATA back from the word they make (R100). -/
theorem decode_cmdWord (op d : Byte) : decode (cmdWord op d) = decodeFields op d := by
  obtain ⟨hop, hd⟩ := Laws.EncodeFields.fields_append op d
  rw [decode, cmdWord, hop, hd]

theorem decode_cmdWord_rdreg (i : Byte) : decode (cmdWord 0x30#8 i) = indexClass i := decode_cmdWord 0x30#8 i

/-- R103: `index` operands up to 5 are legal. -/
theorem indexClass_of_le (i : Byte) (h : i.toNat ≤ 5) : indexClass i = .ok (.rdreg i) :=
  if_pos (BitVec.le_def.2 h)

theorem indexClass_of_gt (i : Byte) (h : 5 < i.toNat) : indexClass i = .error .indexOutOfRange :=
  if_neg fun hle => Nat.not_le.2 h (BitVec.le_def.1 hle)

/-- R272: a word the decoder rejects raises ILLEGAL_CMD, in every state. -/
theorem runWord_of_decode_error {w : CmdWord} {e : DecodeError} (h : decode w = .error e) (s : State) :
    runWord w s = .next (s.faulted 1#4) := by
  rw [runWord, h]
  exact congrArg Host.Outcome.next (s.raise_eq_faulted .illegalCmd)

/-! ### RDREG -/

/-- R239: an index that names a register answers its value and changes nothing but the response. -/
theorem exec_rdreg_of_some {s : State} {i : Byte} {v : Word} (h : s.readReg i = some v) :
    exec (.rdreg i) s = .next { s with resp := ⟨0#4, v⟩ } := by
  rw [exec, execRdreg, h]; rfl

theorem State.readReg_of_gt (s : State) (i : Byte) (h : 5 < i.toNat) : s.readReg i = none := by
  have hgt : ¬ i ≤ 0x05#8 := fun hle => Nat.not_le.2 h (BitVec.le_def.1 hle)
  simpa [hgt] using s.readReg_isSome i

/-- R71: an index above 5 names nothing. -/
theorem exec_rdreg_of_gt (s : State) (i : Byte) (h : 5 < i.toNat) :
    exec (.rdreg i) s = .next (s.faulted 1#4) := by
  rw [exec, execRdreg, s.readReg_of_gt i h]
  exact congrArg Host.Outcome.next (s.raise_eq_faulted .illegalCmd)

/-! ### Runs -/

/-- `andThen` answers a next state exactly where both parts do. -/
theorem andThen_eq_next {α β : Type} {o : Host.Outcome α Fault Refusal} {f : α → Host.Outcome β Fault Refusal} {b : β} :
    andThen o f = .next b ↔ ∃ a, o = .next a ∧ f a = .next b := by
  cases o <;> simp [andThen]

/-- A run of a command and a rest is the command's step and the run of the rest from its next state. -/
theorem run_cons_eq_next {i : Instr} {is : List Instr} {s : State} {y : RunYield} :
    run (i :: is) s = .next y ↔
      ∃ t x, exec i s = .next t ∧ run is t = .next x ∧ y = ⟨t.resp :: x.responses, x.final⟩ := by
  simp [run, runWith, andThen_eq_next, @eq_comm _ y]

theorem run_cons_of_next {i : Instr} {is : List Instr} {s t : State} {y : RunYield} (hi : exec i s = .next t)
    (his : run is t = .next y) : run (i :: is) s = .next ⟨t.resp :: y.responses, y.final⟩ :=
  run_cons_eq_next.2 ⟨t, y, hi, his, rfl⟩

/-- A run of two lists is the run of the first followed by the run of the second from its final state (R78). -/
theorem run_append_of_next {is js : List Instr} {s : State} {y z : RunYield} (his : run is s = .next y)
    (hjs : run js y.final = .next z) : run (is ++ js) s = .next ⟨y.responses ++ z.responses, z.final⟩ := by
  induction is generalizing s y with
  | nil => cases his; exact hjs
  | cons i is ih =>
    obtain ⟨t, x, hi, hx, rfl⟩ := run_cons_eq_next.1 his
    exact run_cons_of_next hi (ih hx hjs)

theorem exec_kinit_of_raw {s : State} (raw : s.role = .none) :
    exec .kinit s = .next ((s.setKeys Keys.init).respond 0) := by
  rw [exec, execKinit, if_neg (not_not_intro raw)]

theorem exec_kupd_of_raw {s : State} (raw : s.role = .none) (b : Byte) :
    exec (.kupd b) s = .next ((s.setKeys (update s.keys b)).respond 0) := by
  rw [exec, execKupd, if_neg (not_not_intro raw)]

/-- KUPD over a byte sequence folds every byte into the keys, each response OK with data 0. -/
theorem run_kupds (bs : List Byte) (s : State) (raw : s.role = .none) :
    run (bs.map .kupd) (s.respond 0) =
      .next ⟨List.replicate bs.length ⟨0#4, 0#32⟩, (s.setKeys (updateAll s.keys bs)).respond 0⟩ := by
  induction bs generalizing s with
  | nil => rfl
  | cons b bs ih => exact run_cons_of_next (exec_kupd_of_raw raw b) (ih (s.setKeys (update s.keys b)) raw)

/-- KINITPW from any raw state leaves the keys of INIT (R108, R136). -/
theorem run_kinitPw (pw : List Byte) (s : State) (raw : s.role = .none) :
    run (expand (.kinitPw pw)) s =
      .next ⟨List.replicate (pw.length + 1) ⟨0#4, 0#32⟩, (s.setKeys (initKeys pw)).respond 0⟩ :=
  run_cons_of_next (exec_kinit_of_raw raw) (run_kupds pw (s.setKeys Keys.init) raw)

/-- RDKEYS reads the three key registers in order, in every state (R108). -/
theorem run_rdkeys (s : State) :
    run (expand .rdkeys) s =
      .next ⟨[⟨0#4, s.keys.k0⟩, ⟨0#4, s.keys.k1⟩, ⟨0#4, s.keys.k2⟩], s.respond s.keys.k2⟩ := rfl

/-- The golden vector of R136. -/
theorem initKeys_password :
    initKeys [0x70#8, 0x61#8, 0x73#8, 0x73#8, 0x77#8, 0x6F#8, 0x72#8, 0x64#8] =
      ⟨0xEA9B4E4D#32, 0xBA789085#32, 0x5FF8707D#32⟩ := by decide

/-- Settles O32: each index is one row of the register table, every other one has no row; the golden triple is what
KINITPW leaves in the keys. -/
theorem rdregRule : Obligations.RdregRule := by
  refine ⟨fun i hi => ?_, fun s => ?_, fun s i hi => ⟨exec_rdreg_of_gt s i hi, ?_⟩, fun s raw => ?_⟩
  · rw [decode_cmdWord_rdreg, indexClass_of_le i hi]
  · exact ⟨exec_rdreg_of_some rfl, exec_rdreg_of_some rfl, exec_rdreg_of_some rfl, exec_rdreg_of_some rfl,
      exec_rdreg_of_some rfl, exec_rdreg_of_some rfl⟩
  · exact runWord_of_decode_error ((decode_cmdWord_rdreg i).trans (indexClass_of_gt i hi)) s
  · refine ⟨_, run_append_of_next (run_kinitPw _ s raw) (run_rdkeys _), ?_⟩
    simp [initKeys_password]

/-! ### STATUS and META -/

theorem Role.bits_eq (r : Role) : r.bits = (match r with | .none => 0#2 | .dec => 1#2 | .enc => 2#2) := by
  cases r <;> rfl

/-- HDR_DONE says HDR_CNT = 12 (R38). -/
theorem State.hdrDone_eq_decide (s : State) : s.hdrDone = decide (s.hdrCnt = 12#4) := by
  rw [State.hdrDone, beq_eq_decide, Config.hdrLen]

theorem State.status_role (s : State) : s.status.extractLsb' 0 2 = s.role.bits :=
  BitVec.extractLsb'_append_eq_right

theorem State.status_verify (s : State) : s.status.getLsbD 2 = s.verify := by
  simp only [State.status, BitVec.getLsbD_append]
  simp

theorem State.status_dead (s : State) : s.status.getLsbD 3 = s.dead := by
  simp only [State.status, BitVec.getLsbD_append]
  simp

theorem State.status_hdrCnt (s : State) : s.status.extractLsb' 4 4 = s.hdrCnt := by
  simp only [State.status, BitVec.extractLsb'_append_eq_of_le, Nat.reduceLeDiff, Nat.reduceSub,
    BitVec.extractLsb'_append_eq_right]

theorem State.status_hdrDone (s : State) : s.status.getLsbD 8 = s.hdrDone := by
  simp only [State.status, BitVec.getLsbD_append]
  simp

theorem State.status_reserved_low (s : State) : s.status.extractLsb' 9 3 = 0#3 := by
  simp only [State.status, BitVec.extractLsb'_append_eq_of_le, Nat.reduceLeDiff, Nat.reduceSub,
    BitVec.extractLsb'_append_eq_right]

theorem State.status_stickyErr (s : State) : s.status.extractLsb' 12 4 = s.stickyErr := by
  simp only [State.status, BitVec.extractLsb'_append_eq_of_le, Nat.reduceLeDiff, Nat.reduceSub,
    BitVec.extractLsb'_append_eq_right]

theorem State.status_reserved_high (s : State) : s.status.extractLsb' 16 16 = 0#16 := by
  simp only [State.status, BitVec.extractLsb'_append_eq_of_le, Nat.reduceLeDiff, Nat.reduceSub,
    BitVec.extractLsb'_eq_self]

theorem State.metaWord_modtime (s : State) : s.metaWord.extractLsb' 0 16 = s.metaModtime :=
  BitVec.extractLsb'_append_eq_right

theorem State.metaWord_enc (s : State) : s.metaWord.getLsbD 16 = s.metaEnc := by
  simp only [State.metaWord, BitVec.getLsbD_append]
  simp

theorem State.metaWord_dd (s : State) : s.metaWord.getLsbD 17 = s.metaDd := by
  simp only [State.metaWord, BitVec.getLsbD_append]
  simp

theorem State.metaWord_reserved (s : State) : s.metaWord.extractLsb' 18 14 = 0#14 := by
  simp only [State.metaWord, BitVec.extractLsb'_append_eq_of_le, Nat.reduceLeDiff, Nat.reduceSub,
    BitVec.extractLsb'_eq_self]

/-- Settles O33, field by field: a field of an append is reached by dropping the fields below it. -/
theorem statusAndMetaFields : Obligations.StatusAndMetaFields := fun s =>
  ⟨s.status_role.trans s.role.bits_eq, s.status_verify, s.status_dead, s.status_hdrCnt,
    s.status_hdrDone.trans s.hdrDone_eq_decide, s.status_reserved_low, s.status_stickyErr, s.status_reserved_high,
    s.metaWord_modtime, s.metaWord_enc, s.metaWord_dd, s.metaWord_reserved⟩

/-! ### Reset -/

/-- Settles O51: each row of the reset table. -/
theorem resetValues : Obligations.ResetValues := ⟨rfl, rfl, rfl, rfl, rfl, rfl, rfl, rfl, rfl, rfl, rfl, rfl, rfl⟩

end Sys2Proof.Machine
end

section
/-! PROOFS, the encoding family: the response of every command and of every illegal word (R106). -/
namespace Sys2Proof.Machine

/-! ### Every command answers a next state (R270) -/

theorem exists_ite_eq_next {c : Prop} [Decidable c] {x y : Result} (hx : ∃ t, x = .next t) (hy : ∃ t, y = .next t) :
    ∃ t, (if c then x else y) = .next t := by
  split
  · exact hx
  · exact hy

/-- No command halts the block: each check of a command's rule, failed or passed, leads to a next state. -/
theorem exec_exists_next (i : Instr) (s : State) : ∃ t, exec i s = .next t := by
  cases i with
  | close => exact ⟨_, rfl⟩
  | rdreg n =>
    cases h : s.readReg n with
    | none => exact ⟨s.raise .illegalCmd, by rw [exec, execRdreg, h]⟩
    | some v => exact ⟨_, exec_rdreg_of_some h⟩
  | openDec | openEnc | ebyte _ | ehdr | mflags _ =>
    exact exists_ite_eq_next ⟨_, rfl⟩ (exists_ite_eq_next ⟨_, rfl⟩ ⟨_, rfl⟩)
  | dbyte _ =>
    exact exists_ite_eq_next ⟨_, rfl⟩ (exists_ite_eq_next ⟨_, rfl⟩ (exists_ite_eq_next ⟨_, rfl⟩ ⟨_, rfl⟩))
  | kinit | kupd _ | ksb | kenc _ | kdec _ | openDecNv | pwb _ | mtimeLo _ | mtimeHi _ | mcrc0 _ | mcrc1 _ | mcrc2 _
  | mcrc3 _ =>
    exact exists_ite_eq_next ⟨_, rfl⟩ ⟨_, rfl⟩

/-! ### The response (R106) -/

/-- The fault codes are 1 to 6 (R271). -/
theorem FaultCode.code_bounds (f : FaultCode) : f.code ≠ 0#4 ∧ f.code.toNat ≤ 6 := by
  cases f <;> decide

/-- The response of a command: a fault code with data 0, or OK with the data of R106. -/
theorem Effect.resp_eq {i : Instr} {s t : State} (h : Effect i s t) :
    (∃ f : FaultCode, t.resp = ⟨f.code, 0#32⟩) ∨ t.resp = ⟨0#4, okData i s⟩ := by
  cases h with
  | illegal | badState | adapterDead | notEncrypted | encFlagNotSet | dbyteInvalid => exact .inl ⟨_, rfl⟩
  | rdreg _ _ _ names => exact .inr (by simp [okData, names])
  | _ => exact .inr rfl

/-- Settles O39: the response of a command is read off its `Effect`; a rejected word raises ILLEGAL_CMD. -/
theorem responseOfEveryCommand : Obligations.ResponseOfEveryCommand := by
  refine ⟨fun i s => ?_, fun w s e h => ⟨_, runWord_of_decode_error h s, rfl⟩⟩
  obtain ⟨t, ht⟩ := exec_exists_next i s
  refine ⟨t, ht, ?_⟩
  obtain ⟨f, hf⟩ | hok := (exec_effect i s t ht).resp_eq
  · obtain ⟨nonzero, le_six⟩ := f.code_bounds
    simp [hf, nonzero, le_six]
  · simp [hok]

end Sys2Proof.Machine
end

section
/-! PROOFS, the KeyState family: KINIT, KSB, KENC and KDEC (R140, R142 to R144), with the inverse law of the one-byte
transforms (R139). -/
namespace Sys2Proof.Machine

/-! ### The faults of a command word -/

/-- R272: a non-zero DATA makes the word of a `zero`-class opcode illegal, in every state. -/
theorem runWord_of_zeroClass {op d : Byte} {i : Instr} (class_eq : decodeFields op d = zeroClass d i)
    (nonzero : d ≠ 0x00#8) (s : State) : runWord (cmdWord op d) s = .next (s.faulted 1#4) := by
  have rejected : zeroClass d i = .error .nonZeroData := if_neg nonzero
  exact runWord_of_decode_error ((decode_cmdWord op d).trans (class_eq.trans rejected)) s

/-- R273: a well-formed command whose state check fails answers the BAD_STATE fault state. -/
theorem exec_of_wrongPhase {i : Instr} {s : State} (wf : i.WellFormed) (wrong : wrongPhase i s) :
    exec i s = .next (s.faulted 2#4) := by
  cases i with
  | close | rdreg _ => exact wrong.elim
  | mflags f =>
    have legal : f.extractLsb' 2 6 = 0#6 := eq_of_beq wf
    exact (if_neg (not_not_intro legal)).trans (if_pos wrong)
  | _ => exact if_pos wrong

/-! ### The KeyState commands in raw mode -/

theorem exec_ksb_of_raw {s : State} (raw : s.role = .none) :
    exec .ksb s = .next (s.respond (zext32 (ksByte s.keys.k2))) := by
  rw [exec, execKsb, if_neg (not_not_intro raw)]

theorem exec_kenc_of_raw {s : State} (raw : s.role = .none) (p : Byte) :
    exec (.kenc p) s = .next ((s.setKeys (encByte s.keys p).2).respond (zext32 (encByte s.keys p).1)) := by
  rw [exec, execKenc, if_neg (not_not_intro raw)]

theorem exec_kdec_of_raw {s : State} (raw : s.role = .none) (c : Byte) :
    exec (.kdec c) s = .next ((s.setKeys (decByte s.keys c).2).respond (zext32 (decByte s.keys c).1)) := by
  rw [exec, execKdec, if_neg (not_not_intro raw)]

/-- R139 for one byte: both transforms feed the plaintext into the update. -/
theorem decByte_encByte (k : Keys) (p : Byte) : decByte k (encByte k p).1 = (p, (encByte k p).2) := by
  simp [decByte, encByte]

/-! ### The examples from the reset keys -/

/-- The worked example of R134. -/
theorem ksByte_init : ksByte Keys.init.k2 = 0xAB#8 := by decide

theorem encByte_init_zero :
    encByte Keys.init 0x00#8 = (0xAB#8, ⟨0x5ECCCD58#32, 0xC0F30B66#32, 0x6B5F078C#32⟩) := by decide

/-- The ciphertext of the KENC example is undone by the inverse law. -/
theorem decByte_init_AB :
    decByte Keys.init 0xAB#8 = (0x00#8, ⟨0x5ECCCD58#32, 0xC0F30B66#32, 0x6B5F078C#32⟩) := by
  simpa [encByte_init_zero] using decByte_encByte Keys.init 0x00#8

/-! ### The rules -/

/-- Settles O13: KSB after KINIT reads the keystream byte of the initial constants. -/
theorem kinitRule : Obligations.KinitRule := by
  refine ⟨rfl, fun s raw => exec_kinit_of_raw raw, fun s isOpen => exec_of_wrongPhase rfl isOpen,
    fun s d nonzero => runWord_of_zeroClass rfl nonzero s, rfl, fun s raw => ?_⟩
  have raw' : ((s.setKeys Keys.init).respond 0).role = .none := raw
  refine ⟨_, _, exec_kinit_of_raw raw, exec_ksb_of_raw raw', ?_⟩
  simp [ksByte_init]

/-- Settles O15: KSB leaves the role and the keys that the next KSB reads. -/
theorem ksbRule : Obligations.KsbRule := by
  refine ⟨rfl, fun s raw => exec_ksb_of_raw raw, fun s isOpen => exec_of_wrongPhase rfl isOpen,
    fun s d nonzero => runWord_of_zeroClass rfl nonzero s, fun s t raw first => ?_, fun s raw reset => ?_⟩
  · rw [exec_ksb_of_raw raw] at first
    cases first
    exact exec_ksb_of_raw raw
  · have byte : ksByte s.keys.k2 = 0xAB#8 := by rw [reset]; exact ksByte_init
    rw [exec_ksb_of_raw raw, byte]
    rfl

/-- Settles O16: the transform of R137 on the key registers. -/
theorem kencRule : Obligations.KencRule := by
  refine ⟨decode_cmdWord 0x04#8, fun s p raw => exec_kenc_of_raw raw p,
    fun s p isOpen => exec_of_wrongPhase rfl isOpen, fun s raw => ⟨_, exec_kenc_of_raw raw _, ?_⟩,
    ⟨_, exec_kenc_of_raw rfl _, ?_⟩⟩
  · simp [encByte]
  · simp [State.reset, encByte_init_zero]

/-- Settles O17: the transform of R138 on the key registers; it inverts KENC by `decByte_encByte`. -/
theorem kdecRule : Obligations.KdecRule := by
  refine ⟨decode_cmdWord 0x05#8, fun s c raw => exec_kdec_of_raw raw c,
    fun s c isOpen => exec_of_wrongPhase rfl isOpen,
    fun s p raw => ⟨_, _, exec_kenc_of_raw raw p, exec_kdec_of_raw raw _, ?_⟩, ⟨_, exec_kdec_of_raw rfl _, ?_⟩⟩
  · simp [decByte_encByte]
  · simp [State.reset, decByte_init_AB]

end Sys2Proof.Machine
end

section
/-! PROOFS, the decrypting-stream family: the verification byte (R170), OPEN_DEC, OPEN_DEC_NV and DBYTE (R171 to R174). -/
namespace Sys2Proof.Machine

/-! ### The verification byte -/

theorem State.vbyte_of_dd {s : State} (dd : s.metaDd = true) : s.vbyte = s.metaModtime.extractLsb' 8 8 := if_pos dd

theorem State.vbyte_of_no_dd {s : State} (noDd : s.metaDd = false) : s.vbyte = s.metaCrc.extractLsb' 24 8 :=
  if_neg (Bool.not_eq_true _ ▸ noDd)

/-- The most significant byte of a word is its quotient by the weight of that byte's bit 0. -/
theorem extractLsb'_high_byte_toNat {n : Nat} (x : BitVec (n + 8)) : (x.extractLsb' n 8).toNat = x.toNat / 2 ^ n := by
  have fits : x.toNat / 2 ^ n < 2 ^ 8 := Nat.div_lt_of_lt_mul (Nat.pow_add 2 n 8 ▸ x.isLt)
  rw [BitVec.extractLsb'_toNat, Nat.shiftRight_eq_div_pow, Nat.mod_eq_of_lt fits]

/-- Settles O12: META_DD selects the high byte of META_MODTIME or that of META_CRC. -/
theorem verificationByte : Obligations.VerificationByte := by
  refine ⟨fun s dd => ?_, fun s noDd => ?_, fun s t same_dd same_time same_crc => ?_, fun s dd time => ?_,
    fun s noDd crc => ?_⟩
  · rw [State.vbyte_of_dd dd]; exact extractLsb'_high_byte_toNat _
  · rw [State.vbyte_of_no_dd noDd]; exact extractLsb'_high_byte_toNat _
  · rw [State.vbyte, State.vbyte, same_dd, same_time, same_crc]
  · rw [State.vbyte_of_dd dd, time]; rfl
  · rw [State.vbyte_of_no_dd noDd, crc]; rfl

/-! ### Opening a decrypting stream -/

/-- STATUS after an OPEN command that finds STICKY_ERR at 0: VERIFY and ROLE are its only bits that can be set (R47). -/
theorem State.status_openAs {s : State} (clean : s.stickyErr = 0#4) (r : Role) (v : Bool) :
    ((s.openAs r v).respond 0).status = 0#29 ++ BitVec.ofBool v ++ r.bits := by
  have fields : ((s.openAs r v).respond 0).status =
      0#16 ++ s.stickyErr ++ 0#3 ++ 0#1 ++ 0#4 ++ 0#1 ++ BitVec.ofBool v ++ r.bits := rfl
  rw [fields, clean]
  cases v <;> cases r <;> rfl

theorem exec_openDec_of_raw {s : State} (raw : s.role = .none) (enc : s.metaEnc = true) :
    exec .openDec s = .next ((s.openAs .dec true).respond 0) := by
  rw [exec, execOpenDec, if_neg (not_not_intro raw), if_neg (by simp [enc])]

/-- R275: the metadata does not say that the entry is encrypted. -/
theorem exec_openDec_of_notEncrypted {s : State} (raw : s.role = .none) (plain : s.metaEnc = false) :
    exec .openDec s = .next (s.faulted 4#4) := by
  rw [exec, execOpenDec, if_neg (not_not_intro raw), if_pos plain, State.raise_eq_faulted, FaultCode.code]

theorem exec_openDecNv_of_raw {s : State} (raw : s.role = .none) :
    exec .openDecNv s = .next ((s.openAs .dec false).respond 0) := by
  rw [exec, execOpenDecNv, if_neg (not_not_intro raw)]

/-- Settles O18: the checks of R171 in order; STATUS is that of a verifying decrypting stream just opened. -/
theorem openDecRule : Obligations.OpenDecRule := by
  refine ⟨rfl, fun s raw enc => exec_openDec_of_raw raw enc, fun s isOpen => exec_of_wrongPhase rfl isOpen,
    fun s raw plain => exec_openDec_of_notEncrypted raw plain, fun s d nonzero => runWord_of_zeroClass rfl nonzero s,
    fun s t raw enc clean opened => ?_⟩
  rw [exec_openDec_of_raw raw enc] at opened
  cases opened
  exact State.status_openAs clean .dec true

/-- Settles O19: the only check of R172 is that of ROLE; STATUS is that of a non-verifying decrypting stream just opened. -/
theorem openDecNvRule : Obligations.OpenDecNvRule := by
  refine ⟨rfl, fun s raw => exec_openDecNv_of_raw raw, fun s isOpen => exec_of_wrongPhase rfl isOpen,
    fun s d nonzero => runWord_of_zeroClass rfl nonzero s, fun s t raw clean opened => ?_⟩
  rw [exec_openDecNv_of_raw raw] at opened
  cases opened
  exact State.status_openAs clean .dec false

/-! ### DBYTE -/

/-- R274: a dead decrypting stream. -/
theorem exec_dbyte_of_dead {s : State} (dec : s.role = .dec) (dead : s.dead = true) (c : Byte) :
    exec (.dbyte c) s = .next (s.faulted 3#4) := by
  rw [exec, execDbyte, if_neg (not_not_intro dec), if_pos dead, State.raise_eq_faulted, FaultCode.code]

section
variable {s : State} {c : Byte} (dec : s.role = .dec) (alive : s.dead = false)
include dec alive

theorem exec_dbyte_of_header (more : s.hdrCnt.toNat < 12) :
    exec (.dbyte c) s = .next ((s.setKeys (decByte s.keys c).2).headerByte (decByte s.keys c).1) := by
  have header : s.hdrCnt < Config.hdrLen := BitVec.lt_def.2 more
  rw [exec, execDbyte, if_neg (not_not_intro dec), if_neg (by simp [alive])]
  exact if_pos header

/-- R173, payload phase: the plaintext byte goes to OUT. -/
theorem exec_dbyte_of_payload (done : 12 ≤ s.hdrCnt.toNat) :
    exec (.dbyte c) s = .next (((s.setKeys (decByte s.keys c).2).emit (decByte s.keys c).1).respond 0) := by
  have payload : ¬ s.hdrCnt < Config.hdrLen := BitVec.not_lt.2 (BitVec.le_def.2 done)
  rw [exec, execDbyte, if_neg (not_not_intro dec), if_neg (by simp [alive])]
  exact if_neg payload

/-- R174: the 12th header byte is wrong. -/
theorem exec_dbyte_of_wrong (last : s.hdrCnt.toNat = 11) (verify : s.verify = true)
    (differs : (decByte s.keys c).1 ≠ s.vbyte) :
    exec (.dbyte c) s =
      .next (((s.setKeys (decByte s.keys c).2).setHdrCnt 12#4).setDead.raise .invalidPassword) := by
  have full : s.hdrCnt + 1#4 = 12#4 := (hdrCnt_succ_eq_last _).2 (BitVec.eq_of_toNat_eq last)
  rw [exec_dbyte_of_header dec alive (by omega), State.headerByte_eq, if_pos ⟨full, verify, differs⟩,
    State.setKeys_hdrCnt, full]

/-- R173, header phase: a byte that is not the 12th, is not checked, or is right, is folded in and counted. -/
theorem exec_dbyte_of_accepted
    (accepted : s.hdrCnt.toNat < 11 ∨ s.hdrCnt.toNat = 11 ∧ (s.verify = false ∨ (decByte s.keys c).1 = s.vbyte)) :
    exec (.dbyte c) s =
      .next (((s.setKeys (decByte s.keys c).2).setHdrCnt (s.hdrCnt + 1#4)).respond 0) := by
  have right : ¬ (s.hdrCnt + 1#4 = 12#4 ∧ s.verify = true ∧ (decByte s.keys c).1 ≠ s.vbyte) := by
    rintro ⟨full, verify, differs⟩
    have last : s.hdrCnt.toNat = 11 := by rw [(hdrCnt_succ_eq_last _).1 full]; rfl
    simp [last, verify, differs] at accepted
  rw [exec_dbyte_of_header dec alive (by omega), State.headerByte_eq]
  exact congrArg Host.Outcome.next (if_neg right)

end

/-- DECRYPT over header bytes before the 12th: each is folded into the keys and counted, nothing is emitted. -/
theorem run_dbytes_of_header (cs : List Byte) (s : State) (dec : s.role = .dec) (alive : s.dead = false)
    (short : s.hdrCnt.toNat + cs.length < 12) :
    run (expand (.decrypt cs)) (s.respond 0) =
      .next ⟨List.replicate cs.length ⟨0#4, 0#32⟩,
        ((s.setKeys (decBytes s.keys cs).2).setHdrCnt (s.hdrCnt + BitVec.ofNat 4 cs.length)).respond 0⟩ := by
  induction cs generalizing s with
  | nil => simp [expand, run, runWith, decBytes, State.setKeys, State.setHdrCnt]
  | cons c cs ih =>
    rw [List.length_cons] at short
    have first : exec (.dbyte c) (s.respond 0) = _ := exec_dbyte_of_accepted dec alive (.inl (by simp; omega))
    have counted : (s.hdrCnt + 1#4).toNat = s.hdrCnt.toNat + 1 := by
      rw [BitVec.toNat_add]
      exact Nat.mod_eq_of_lt (by simp; omega)
    have rest := ih ((s.setKeys (decByte s.keys c).2).setHdrCnt (s.hdrCnt + 1#4)) dec alive (by simp [counted]; omega)
    have count : s.hdrCnt + 1#4 + BitVec.ofNat 4 cs.length = s.hdrCnt + BitVec.ofNat 4 (cs.length + 1) := by
      rw [BitVec.add_assoc, BitVec.add_comm 1#4, BitVec.ofNat_add]
    rw [State.setHdrCnt_hdrCnt, count] at rest
    exact run_cons_of_next first rest

/-! ### The example of DBYTE: the stream of program P3 -/

/-- The keys after the first eleven header bytes. -/
theorem decBytes_example_header :
    (decBytes (decByte (initKeys [0x73#8, 0x65#8, 0x63#8, 0x72#8, 0x65#8, 0x74#8]) 0xC8#8).2
      [0x88#8, 0xC2#8, 0xBF#8, 0x0D#8, 0xE3#8, 0xA4#8, 0x03#8, 0xF4#8, 0x15#8, 0x32#8]).2 =
      ⟨0x06256DC1#32, 0x033E15C3#32, 0x24E4AE71#32⟩ := by decide +kernel

/-- The 12th header byte decrypts to the verification byte of the checksum 0x12345678. -/
theorem decByte_example_last :
    decByte ⟨0x06256DC1#32, 0x033E15C3#32, 0x24E4AE71#32⟩ 0xCB#8 =
      (0x12#8, ⟨0x1FDCA603#32, 0xF1A084DF#32, 0xED9C678E#32⟩) := by decide

theorem decByte_example_payload :
    (decByte ⟨0x1FDCA603#32, 0xF1A084DF#32, 0xED9C678E#32⟩ 0x92#8).1 = 0x68#8 := by decide

/-- Settles O20: the checks of R173 in order, then the header and payload rules; the example is one accepted byte, a run
of ten more, the verified byte and one payload byte. -/
theorem dbyteRule : Obligations.DbyteRule := by
  refine ⟨decode_cmdWord 0x14#8, fun s c notDec => exec_of_wrongPhase rfl notDec,
    fun s c dec dead => exec_dbyte_of_dead dec dead c,
    fun s c dec alive => ⟨fun accepted => exec_dbyte_of_accepted dec alive accepted,
      fun last verify differs => exec_dbyte_of_wrong dec alive last verify differs,
      fun done => exec_dbyte_of_payload dec alive done⟩, ?_⟩
  refine ⟨_, _, _, _, exec_dbyte_of_accepted rfl rfl (.inl (by decide)), rfl, rfl,
    run_dbytes_of_header _ _ rfl rfl (by decide), exec_dbyte_of_accepted rfl rfl (.inr ⟨by decide, .inr ?_⟩), rfl, rfl, rfl,
    exec_dbyte_of_payload rfl rfl (by decide), ?_⟩
  · simp [decBytes_example_header, decByte_example_last, State.vbyte_of_no_dd, State.reset]
  · simp [decBytes_example_header, decByte_example_last, decByte_example_payload, State.reset]

end Sys2Proof.Machine
end

section
/-! PROOFS, the encrypting-stream family: OPEN_ENC (R200) and the header generation (R201). -/
namespace Sys2Proof.Machine

/-! ### Opening an encrypting stream -/

theorem exec_openEnc_of_raw {s : State} (raw : s.role = .none) (enc : s.metaEnc = true) :
    exec .openEnc s = .next ((s.openAs .enc false).respond 0) := by
  rw [exec, execOpenEnc, if_neg (not_not_intro raw), if_neg (by simp [enc])]

/-- R276: the metadata does not ask for encryption. -/
theorem exec_openEnc_of_encFlagNotSet {s : State} (raw : s.role = .none) (plain : s.metaEnc = false) :
    exec .openEnc s = .next (s.faulted 5#4) := by
  rw [exec, execOpenEnc, if_neg (not_not_intro raw), if_pos plain, State.raise_eq_faulted, FaultCode.code]

/-- Settles O21: the checks of R200 in order; STATUS is that of an encrypting stream just opened. -/
theorem openEncRule : Obligations.OpenEncRule := by
  refine ⟨rfl, fun s raw enc => exec_openEnc_of_raw raw enc, fun s isOpen => exec_of_wrongPhase rfl isOpen,
    fun s raw plain => exec_openEnc_of_encFlagNotSet raw plain, fun s d nonzero => runWord_of_zeroClass rfl nonzero s,
    fun s t raw enc clean opened => ?_⟩
  rw [exec_openEnc_of_raw raw enc] at opened
  cases opened
  exact State.status_openAs clean .enc false

/-! ### The bytes of the entropy port -/

/-- The byte that draw number `j` from `s` on gives (R73): a listed one, or past the list a free value of ENTROPY. -/
def State.portByte (s : State) (j : Nat) : Byte :=
  (s.entropy[j]?).getD (Config.entropy s.entropyPort (s.draws + (j - s.entropy.length)))

theorem State.salt_eq_map_portByte (s : State) : s.salt = (List.range 11).map s.portByte := rfl

theorem State.draw_byte (s : State) : s.draw.1 = s.portByte 0 := by
  rw [State.draw_eq, State.portByte]
  cases s.entropy <;> simp

/-- After one draw the port gives the bytes from the next one on, whichever of the two kinds the drawn byte was. -/
theorem State.portByte_draw (s : State) (j : Nat) : s.draw.2.portByte j = s.portByte (j + 1) := by
  rw [State.draw_eq, State.portByte, State.portByte]
  cases s.entropy with
  | nil => simp [Nat.add_assoc, Nat.add_comm 1 j]
  | cons b rest => simp

/-- `n` draws give the port's first `n` bytes in order. -/
theorem State.drawN_bytes (n : Nat) (s : State) : (s.drawN n).1 = (List.range n).map s.portByte := by
  induction n generalizing s with
  | zero => rfl
  | succ n ih =>
    have rest : (s.draw.2.drawN n).1 = (List.range n).map fun j => s.portByte (j + 1) := by
      rw [ih, funext s.portByte_draw]
    rw [State.drawN, s.draw_byte, rest, List.range_succ_eq_map, List.map_cons, List.map_map]
    rfl

/-! ### The header generation -/

theorem State.headerPlain_eq_salt (s : State) : s.headerPlain = s.salt ++ [s.vbyte] := by
  rw [State.headerPlain, State.drawN_bytes, State.salt_eq_map_portByte, Config.saltLen]

theorem State.salt_length (s : State) : s.salt.length = 11 := by simp [State.salt]

/-- The last keys of the header are those after its twelve updates by the plaintext bytes. -/
theorem State.afterHeader_keys (s : State) : s.afterHeader.keys = updateAll s.keys (s.salt ++ [s.vbyte]) :=
  encBytes_keys s.keys _

theorem State.afterHeader_out_length (s : State) : s.afterHeader.out.length = s.out.length + 12 := by
  simp [State.afterHeader, s.salt_length]

/-- R201 without its precondition: EMIT_HEADER reads neither ROLE nor HDR_CNT. -/
theorem State.emitHeader_eq_afterHeader (s : State) : s.emitHeader = s.afterHeader := by
  rw [State.emitHeader_eq, State.headerPlain_eq_salt, State.afterHeader, encBytes_keys]

/-- Settles O22: the eleven draws give the port's first bytes, which with VBYTE are the twelve encrypted ones. -/
theorem headerGeneration : Obligations.HeaderGeneration :=
  ⟨fun s _ _ => s.emitHeader_eq_afterHeader, fun s => ⟨s.salt_length, s.afterHeader_out_length⟩, State.afterHeader_keys⟩

end Sys2Proof.Machine
end

section
/-! PROOFS, the session and metadata family: CLOSE (R231) and the metadata loads MFLAGS, MTIME_LO, MTIME_HI, MCRC0 to
MCRC3 (R232 to R238). -/
namespace Sys2Proof.Machine

/-! ### CLOSE -/

theorem exec_close (s : State) : exec .close s = .next (s.closeAdapter.respond 0) := rfl

/-- STATUS after CLOSE holds STICKY_ERR alone (R47). -/
theorem State.status_closeAdapter (s : State) :
    (s.closeAdapter.respond 0).status = 0#16 ++ s.stickyErr ++ 0#12 := by
  have fields : (s.closeAdapter.respond 0).status =
      0#16 ++ s.stickyErr ++ 0#3 ++ 0#1 ++ 0#4 ++ 0#1 ++ 0#1 ++ 0#2 := rfl
  rw [fields]
  generalize s.stickyErr = e
  revert e
  decide

/-- Settles O27: of the STATUS fields CLOSE keeps only STICKY_ERR, which is 6 in the example. -/
theorem closeRule : Obligations.CloseRule := by
  refine ⟨rfl, exec_close, fun s d nonzero => runWord_of_zeroClass rfl nonzero s, fun s t status closed => ?_⟩
  have sticky : s.stickyErr = 6#4 := by rw [← s.status_stickyErr, status]; rfl
  cases closed
  rw [s.status_closeAdapter, sticky]
  rfl

/-! ### MFLAGS -/

/-- R101: a `flags` operand is legal exactly where it is below 4. -/
theorem flags_reserved_eq_zero_iff (f : Byte) : f.extractLsb' 2 6 = 0#6 ↔ f.toNat < 4 := by
  have fits : f.toNat / 4 < 2 ^ 6 := by omega
  have reserved : (f.extractLsb' 2 6).toNat = f.toNat / 4 := by
    rw [BitVec.extractLsb'_toNat, Nat.shiftRight_eq_div_pow, Nat.mod_eq_of_lt fits]
  rw [← BitVec.toNat_inj, reserved]
  simp [Nat.div_eq_zero_iff]

theorem flagEnc_eq_decide (f : Byte) : flagEnc f = decide (f.toNat % 2 = 1) := by
  rw [flagEnc, BitVec.getLsbD, Nat.testBit_zero]

theorem flagDd_eq_decide (f : Byte) : flagDd f = decide (f.toNat / 2 % 2 = 1) := by
  rw [flagDd, BitVec.getLsbD, Nat.testBit_succ, Nat.testBit_zero]

theorem decode_cmdWord_mflags (f : Byte) : decode (cmdWord 0x20#8 f) = flagsClass f := decode_cmdWord 0x20#8 f

theorem flagsClass_of_lt {f : Byte} (legal : f.toNat < 4) : flagsClass f = .ok (.mflags f) :=
  if_pos ((flags_reserved_eq_zero_iff f).2 legal)

theorem flagsClass_of_ge {f : Byte} (illegal : 4 ≤ f.toNat) : flagsClass f = .error .flagsReserved :=
  if_neg fun zero => Nat.not_lt.2 illegal ((flags_reserved_eq_zero_iff f).1 zero)

theorem exec_mflags_of_raw {s : State} (raw : s.role = .none) {f : Byte} (legal : f.toNat < 4) :
    exec (.mflags f) s = .next ((s.setFlags (flagEnc f) (flagDd f)).respond 0) := by
  rw [exec, execMflags, if_neg (not_not_intro ((flags_reserved_eq_zero_iff f).2 legal)), if_neg (not_not_intro raw)]

/-- R272: the reserved bits are checked before ROLE. -/
theorem exec_mflags_of_ge (s : State) {f : Byte} (illegal : 4 ≤ f.toNat) :
    exec (.mflags f) s = .next (s.faulted 1#4) := by
  have reserved : f.extractLsb' 2 6 ≠ 0#6 :=
    fun zero => Nat.not_lt.2 illegal ((flags_reserved_eq_zero_iff f).1 zero)
  rw [exec, execMflags, if_pos reserved, State.raise_eq_faulted, FaultCode.code]

/-- Settles O28: the operand class decides between the load and ILLEGAL_CMD; META shows the flags at bits 16 and 17. -/
theorem mflagsRule : Obligations.MflagsRule := by
  refine ⟨fun f legal => (decode_cmdWord_mflags f).trans (flagsClass_of_lt legal), fun s f legal raw => ?_,
    fun s f legal isOpen => exec_of_wrongPhase (beq_iff_eq.2 ((flags_reserved_eq_zero_iff f).2 legal)) isOpen,
    fun s f illegal => ⟨exec_mflags_of_ge s illegal,
      runWord_of_decode_error ((decode_cmdWord_mflags f).trans (flagsClass_of_ge illegal)) s⟩,
    fun s raw => ⟨_, exec_mflags_of_raw raw (by decide), rfl, rfl, State.metaWord_enc _, State.metaWord_dd _⟩⟩
  rw [exec_mflags_of_raw raw legal, flagEnc_eq_decide, flagDd_eq_decide]
  rfl

/-! ### The modification time -/

theorem exec_mtimeLo_of_raw {s : State} (raw : s.role = .none) (b : Byte) :
    exec (.mtimeLo b) s = .next ((s.setModtime (setLow16 s.metaModtime b)).respond 0) := by
  rw [exec, execMtimeLo, if_neg (not_not_intro raw)]

theorem exec_mtimeHi_of_raw {s : State} (raw : s.role = .none) (b : Byte) :
    exec (.mtimeHi b) s = .next ((s.setModtime (setHigh16 s.metaModtime b)).respond 0) := by
  rw [exec, execMtimeHi, if_neg (not_not_intro raw)]

/-- A byte appended below a word leaves the word at its multiple of 256. -/
theorem toNat_append_byte {n : Nat} (x : BitVec n) (b : Byte) : (x ++ b).toNat = x.toNat * 256 + b.toNat := by
  rw [BitVec.toNat_append, ← Nat.shiftLeft_add_eq_or_of_lt b.isLt, Nat.shiftLeft_eq]

theorem setLow16_toNat (x : BitVec 16) (b : Byte) : (setLow16 x b).toNat = x.toNat / 256 * 256 + b.toNat := by
  have high : (x.extractLsb' 8 8).toNat = x.toNat / 256 := extractLsb'_high_byte_toNat (n := 8) x
  rw [setLow16, toNat_append_byte, high]

theorem setHigh16_toNat (x : BitVec 16) (b : Byte) : (setHigh16 x b).toNat = b.toNat * 256 + x.toNat % 256 := by
  rw [setHigh16, toNat_append_byte, BitVec.extractLsb'_toNat, Nat.shiftRight_zero]

theorem setLow16_high_byte (x : BitVec 16) (b : Byte) : (setLow16 x b).extractLsb' 8 8 = x.extractLsb' 8 8 :=
  BitVec.extractLsb'_append_eq_left

theorem setHigh16_high_byte (x : BitVec 16) (b : Byte) : (setHigh16 x b).extractLsb' 8 8 = b :=
  BitVec.extractLsb'_append_eq_left

/-- Both loads together replace the whole word. -/
theorem setHigh16_setLow16 (x : BitVec 16) (lo hi : Byte) : setHigh16 (setLow16 x lo) hi = hi ++ lo := by
  rw [setHigh16, setLow16, BitVec.extractLsb'_append_eq_right]

/-- META_MODTIME reaches the verification byte only by its high byte (R170). -/
theorem State.vbyte_setModtime {s : State} {t : BitVec 16}
    (high : t.extractLsb' 8 8 = s.metaModtime.extractLsb' 8 8) : (s.setModtime t).vbyte = s.vbyte := by
  simp [State.vbyte, high]

theorem State.vbyte_setModtime_of_dd {s : State} (dd : s.metaDd = true) (t : BitVec 16) :
    (s.setModtime t).vbyte = t.extractLsb' 8 8 := State.vbyte_of_dd (s := s.setModtime t) dd

/-- Settles O29: each load replaces one half of META_MODTIME, of which the verification byte reads only the high one. -/
theorem mtimeRules : Obligations.MtimeRules := by
  refine ⟨fun b => ⟨decode_cmdWord 0x21#8 b, decode_cmdWord 0x22#8 b⟩,
    fun s b raw => ⟨_, exec_mtimeLo_of_raw raw b, setLow16_toNat _ b⟩,
    fun s b raw => ⟨_, exec_mtimeHi_of_raw raw b, setHigh16_toNat _ b⟩,
    fun s b isOpen => ⟨exec_of_wrongPhase rfl isOpen, exec_of_wrongPhase rfl isOpen⟩,
    fun s t b raw loaded => ?_, fun s t b raw dd loaded => ?_,
    fun s raw => ⟨_, _, exec_mtimeLo_of_raw raw _, exec_mtimeHi_of_raw (by simpa using raw) _, ?_⟩⟩
  · rw [exec_mtimeLo_of_raw raw] at loaded
    cases loaded
    rw [State.respond_vbyte, State.vbyte_setModtime (setLow16_high_byte _ b)]
  · rw [exec_mtimeHi_of_raw raw] at loaded
    cases loaded
    rw [State.respond_vbyte, State.vbyte_setModtime_of_dd dd, setHigh16_high_byte]
  · exact setHigh16_setLow16 s.metaModtime 0x34#8 0x12#8

/-! ### The checksum -/

theorem exec_mcrc0_of_raw {s : State} (raw : s.role = .none) (b : Byte) :
    exec (.mcrc0 b) s = .next ((s.setCrc (setByte0 s.metaCrc b)).respond 0) := by
  rw [exec, execMcrc0, if_neg (not_not_intro raw)]

theorem exec_mcrc1_of_raw {s : State} (raw : s.role = .none) (b : Byte) :
    exec (.mcrc1 b) s = .next ((s.setCrc (setByte1 s.metaCrc b)).respond 0) := by
  rw [exec, execMcrc1, if_neg (not_not_intro raw)]

theorem exec_mcrc2_of_raw {s : State} (raw : s.role = .none) (b : Byte) :
    exec (.mcrc2 b) s = .next ((s.setCrc (setByte2 s.metaCrc b)).respond 0) := by
  rw [exec, execMcrc2, if_neg (not_not_intro raw)]

theorem exec_mcrc3_of_raw {s : State} (raw : s.role = .none) (b : Byte) :
    exec (.mcrc3 b) s = .next ((s.setCrc (setByte3 s.metaCrc b)).respond 0) := by
  rw [exec, execMcrc3, if_neg (not_not_intro raw)]

/-- `v` is `x` with byte `n` replaced by `b`: what the four field writes `setByte0` to `setByte3` have in common. -/
def IsByteWrite (n : Nat) (x : Word) (b : Byte) (v : Word) : Prop :=
  ∀ k, v.getLsbD k = if 8 * n ≤ k ∧ k < 8 * n + 8 then b.getLsbD (k - 8 * n) else x.getLsbD k

theorem setByte0_isByteWrite (x : Word) (b : Byte) : IsByteWrite 0 x b (setByte0 x b) := fun k => by
  simpa using setByte0_bit x b k

theorem setByte1_isByteWrite (x : Word) (b : Byte) : IsByteWrite 1 x b (setByte1 x b) := setByte1_bit x b

theorem setByte2_isByteWrite (x : Word) (b : Byte) : IsByteWrite 2 x b (setByte2 x b) := setByte2_bit x b

theorem setByte3_isByteWrite (x : Word) (b : Byte) : IsByteWrite 3 x b (setByte3 x b) := setByte3_bit x b

theorem setByte3_high_byte (x : Word) (b : Byte) : (setByte3 x b).extractLsb' 24 8 = b :=
  BitVec.extractLsb'_append_eq_left

section
variable {n : Nat} {x : Word} {b : Byte} {v : Word} (write : IsByteWrite n x b v)
include write

theorem IsByteWrite.same_byte : v.extractLsb' (8 * n) 8 = b := by
  ext k hk
  rw [BitVec.getElem_extractLsb', write, if_pos (by omega), Nat.add_sub_cancel_left, BitVec.getLsbD_eq_getElem hk]

theorem IsByteWrite.other_byte {m : Nat} (other : m ≠ n) : v.extractLsb' (8 * m) 8 = x.extractLsb' (8 * m) 8 := by
  ext k hk
  rw [BitVec.getElem_extractLsb', BitVec.getElem_extractLsb', write, if_neg (by omega)]

end

/-- The MCRC commands as one family: each writes the byte of its number. -/
theorem exec_mcrc_of_raw {s : State} (raw : s.role = .none) {b : Byte} {n : Nat} {i : Instr}
    (mcrc : (n, i) ∈ [(0, Instr.mcrc0 b), (1, .mcrc1 b), (2, .mcrc2 b), (3, .mcrc3 b)]) :
    ∃ v, exec i s = .next ((s.setCrc v).respond 0) ∧ IsByteWrite n s.metaCrc b v := by
  simp only [List.mem_cons, Prod.mk.injEq, List.not_mem_nil, or_false] at mcrc
  obtain ⟨rfl, rfl⟩ | ⟨rfl, rfl⟩ | ⟨rfl, rfl⟩ | ⟨rfl, rfl⟩ := mcrc
  · exact ⟨_, exec_mcrc0_of_raw raw b, setByte0_isByteWrite _ b⟩
  · exact ⟨_, exec_mcrc1_of_raw raw b, setByte1_isByteWrite _ b⟩
  · exact ⟨_, exec_mcrc2_of_raw raw b, setByte2_isByteWrite _ b⟩
  · exact ⟨_, exec_mcrc3_of_raw raw b, setByte3_isByteWrite _ b⟩

/-- META_CRC reaches the verification byte only by its byte 3 (R170). -/
theorem State.vbyte_setCrc {s : State} {v : Word}
    (high : v.extractLsb' 24 8 = s.metaCrc.extractLsb' 24 8) : (s.setCrc v).vbyte = s.vbyte := by
  simp [State.vbyte, high]

theorem State.vbyte_setCrc_of_no_dd {s : State} (noDd : s.metaDd = false) (v : Word) :
    (s.setCrc v).vbyte = v.extractLsb' 24 8 := State.vbyte_of_no_dd (s := s.setCrc v) noDd

/-- R235 to R237: a write below byte 3 keeps the verification byte. -/
theorem mcrc_low_keeps_vbyte {s t : State} {b : Byte} {n : Nat} {i : Instr} (raw : s.role = .none)
    (mcrc : (n, i) ∈ [(0, Instr.mcrc0 b), (1, .mcrc1 b), (2, .mcrc2 b), (3, .mcrc3 b)]) (low : n < 3)
    (loaded : exec i s = .next t) : t.vbyte = s.vbyte := by
  obtain ⟨v, next, write⟩ := exec_mcrc_of_raw raw mcrc
  rw [next] at loaded
  cases loaded
  rw [State.respond_vbyte, State.vbyte_setCrc (write.other_byte (m := 3) (by omega))]

/-- Settles O30: the four commands are one byte write at four places, of which the verification byte reads the last. -/
theorem mcrcRules : Obligations.McrcRules := by
  refine ⟨fun b => ⟨decode_cmdWord 0x23#8 b, decode_cmdWord 0x24#8 b, decode_cmdWord 0x25#8 b,
      decode_cmdWord 0x26#8 b⟩,
    fun s b n i raw mcrc => ?_, fun s b i isOpen mcrc => ?_, fun s t b i raw mcrc loaded => ?_,
    fun s t b raw noDd loaded => ?_, fun s raw zero => ?_⟩
  · obtain ⟨v, next, write⟩ := exec_mcrc_of_raw raw mcrc
    exact ⟨v, next, write.same_byte, fun m _ other => write.other_byte other⟩
  · simp only [List.mem_cons, List.not_mem_nil, or_false] at mcrc
    obtain rfl | rfl | rfl | rfl := mcrc <;> exact exec_of_wrongPhase rfl isOpen
  · simp only [List.mem_cons, List.not_mem_nil, or_false] at mcrc
    obtain rfl | rfl | rfl := mcrc
    · exact mcrc_low_keeps_vbyte (b := b) (n := 0) raw (by simp) (by decide) loaded
    · exact mcrc_low_keeps_vbyte (b := b) (n := 1) raw (by simp) (by decide) loaded
    · exact mcrc_low_keeps_vbyte (b := b) (n := 2) raw (by simp) (by decide) loaded
  · rw [exec_mcrc3_of_raw raw] at loaded
    cases loaded
    rw [State.respond_vbyte, State.vbyte_setCrc_of_no_dd noDd, setByte3_high_byte]
  · refine ⟨_, _, _, _, exec_mcrc0_of_raw raw _, ?_, exec_mcrc1_of_raw (by simpa using raw) _, ?_,
      exec_mcrc2_of_raw (by simpa using raw) _, ?_, exec_mcrc3_of_raw (by simpa using raw) _, ?_⟩ <;>
    · simp only [State.respond_metaCrc, State.setCrc_metaCrc, zero]
      rfl

end Sys2Proof.Machine
end

section
/-! PROOFS, the exceptions family: ILLEGAL_CMD on the command port (R272), the ways a command word ends (R270), STICKY_ERR
(R280), the legality table (R273), the fault priority (R279), and the DEAD condition (R274). -/
namespace Sys2Proof.Machine

/-! ### The command port -/

/-- Settles O47: the step is the run of the word on the state without the event. -/
theorem stepIllegalWord : Obligations.StepIllegalWord := fun s _ rest _ host rejected =>
  (runNext_cons s _ rest host).trans (runWord_of_decode_error rejected _)

theorem runWord_of_decode_ok {w : CmdWord} {i : Instr} (h : decode w = .ok i) (s : State) : runWord w s = exec i s := by
  rw [runWord, h]

/-- A command word ends in ILLEGAL_CMD or in an outcome of the command it decodes to. -/
theorem runWord_effect {w : CmdWord} {s t : State} (h : runWord w s = .next t) :
    t = s.faulted 1#4 ∨ ∃ i, decode w = .ok i ∧ Effect i s t := by
  cases decoded : decode w with
  | error e => rw [runWord_of_decode_error decoded] at h; cases h; exact .inl rfl
  | ok i => exact .inr ⟨i, rfl, exec_effect i s t (runWord_of_decode_ok decoded s ▸ h)⟩

/-- No word halts the block (R270). -/
theorem runWord_exists_next (w : CmdWord) (s : State) : ∃ t, runWord w s = .next t := by
  cases decoded : decode w with
  | error e => exact ⟨_, runWord_of_decode_error decoded s⟩
  | ok i => exact runWord_of_decode_ok decoded s ▸ exec_exists_next i s

/-! ### The ways a command word ends -/

theorem State.headerIfDue_stickyErr (s : State) : s.headerIfDue.stickyErr = s.stickyErr := by
  rw [State.headerIfDue, State.emitHeader_eq]
  split <;> rfl

/-- The state INVALID_PASSWORD leaves: the changes R174 makes before the `raise`, then the recording step (R277). -/
def State.rejectedPassword (s : State) (k : Keys) : State :=
  { s.faulted 6#4 with keys := k, hdrCnt := 12#4, dead := true }

/-- The three ways a command word ends, as far as the fault rules R270 and R280 tell them apart. -/
inductive Ending (s t : State) : Prop where
  | ok (status : t.resp.status = 0#4) (sticky : t.stickyErr = s.stickyErr)
  | fault (f : FaultCode) (other : f ≠ .invalidPassword) (left : t = s.faulted f.code)
  | invalidPassword (k : Keys) (left : t = s.rejectedPassword k)

theorem Effect.ending {i : Instr} {s t : State} (h : Effect i s t) : Ending s t := by
  cases h with
  | illegal | badState | adapterDead | notEncrypted | encFlagNotSet => exact .fault _ (by decide) rfl
  | dbyteInvalid => exact .invalidPassword _ rfl
  | ebyte | ehdr => exact .ok rfl s.headerIfDue_stickyErr
  | _ => exact .ok rfl rfl

theorem runWord_ending {w : CmdWord} {s t : State} (h : runWord w s = .next t) : Ending s t := by
  obtain rfl | ⟨i, -, effect⟩ := runWord_effect h
  · exact .fault .illegalCmd (by decide) rfl
  · exact effect.ending

theorem FaultCode.code_eq_six_iff (f : FaultCode) : f.code = 6#4 ↔ f = .invalidPassword := by
  cases f <;> decide

theorem Ending.eq_faulted {s t : State} (h : Ending s t) (fault : t.resp.status ≠ 0#4) (notPassword : t.resp.status ≠ 6#4) :
    t = s.faulted t.resp.status := by
  cases h with
  | ok status => exact absurd status fault
  | fault f _ left => subst left; rfl
  | invalidPassword k left => subst left; exact absurd rfl notPassword

theorem Ending.eq_rejectedPassword {s t : State} (h : Ending s t) (status : t.resp.status = 6#4) :
    t = s.rejectedPassword t.keys := by
  cases h with
  | ok zero => rw [zero] at status; cases status
  | fault f other left => subst left; exact absurd (f.code_eq_six_iff.1 status) other
  | invalidPassword k left => subst left; rfl

/-- Settles O36: every word ends in one of the three ways. -/
theorem faultEffects : Obligations.FaultEffects :=
  ⟨runWord_exists_next, fun _ _ _ h fault notPassword => (runWord_ending h).eq_faulted fault notPassword,
    fun _ _ _ h status => (runWord_ending h).eq_rejectedPassword status⟩

/-! ### STICKY_ERR -/

/-- The value STICKY_ERR takes when a response carries `status` (R280). -/
def State.recordStatus (s : State) (status : BitVec 4) : BitVec 4 :=
  if status ≠ 0#4 ∧ s.stickyErr = 0#4 then status else s.stickyErr

theorem State.faulted_stickyErr (s : State) {code : BitVec 4} (fault : code ≠ 0#4) :
    (s.faulted code).stickyErr = s.recordStatus code := by
  simp [State.faulted, State.recordStatus, fault]

theorem Ending.stickyErr_eq {s t : State} (h : Ending s t) : t.stickyErr = s.recordStatus t.resp.status := by
  cases h with
  | ok status sticky => simp [State.recordStatus, status, sticky]
  | fault f _ left => subst left; exact s.faulted_stickyErr f.code_bounds.1
  | invalidPassword k left => subst left; exact s.faulted_stickyErr (code := 6#4) (by decide)

theorem State.recordStatus_of_sticky {s : State} (sticky : s.stickyErr ≠ 0#4) (status : BitVec 4) :
    s.recordStatus status = s.stickyErr :=
  if_neg fun h => sticky h.2

/-- No event but a reset changes a STICKY_ERR that is not 0. -/
theorem runEvent_keeps_stickyErr {e : HostEvent} {s t : State} (h : runEvent e s = .next t) (sticky : s.stickyErr ≠ 0#4)
    (noReset : e ≠ .reset) : t.stickyErr = s.stickyErr := by
  cases e with
  | command w => exact (runWord_ending h).stickyErr_eq.trans (State.recordStatus_of_sticky sticky _)
  | drain n => cases h; rfl
  | reset => exact absurd rfl noReset
  | together => cases h

/-- Settles O37: a word records its status by its ending, and a step is no event or the run of the next one. -/
theorem stickyErrRecordsFirstFault : Obligations.StickyErrRecordsFirstFault := by
  refine ⟨fun w s t h => (runWord_ending h).stickyErr_eq, fun s t h sticky noReset => ?_, fun s t reset h => ?_⟩
  · cases host : s.host with
    | nil => rw [step, runNext_nil s host] at h; cases h; rfl
    | cons e rest =>
      rw [step, runNext_cons s e rest host] at h
      exact runEvent_keeps_stickyErr (s := { s with host := rest }) h sticky (by simpa [host] using noReset)
  · obtain ⟨rest, host⟩ := List.head?_eq_some_iff.1 reset
    rw [step, runNext_cons s .reset rest host] at h
    cases h
    rfl

/-! ### The phases -/

section
variable {s : State}

theorem State.phase_eq_raw_iff : s.phase = .raw ↔ s.role = .none := by
  unfold State.phase
  split
  case isTrue raw => simp [raw]
  case isFalse isOpen => simp only [isOpen, iff_false]; split_ifs <;> simp

theorem State.phase_of_dead (isOpen : s.role ≠ .none) (dead : s.dead = true) : s.phase = .dead :=
  (if_neg isOpen).trans (if_pos dead)

theorem State.phase_of_alive (isOpen : s.role ≠ .none) (alive : s.dead = false) :
    s.phase = if s.hdrCnt = 0#4 then .keying else if s.hdrCnt = 12#4 then .payload else .header := by
  rw [State.phase, if_neg isOpen, if_neg (by simp [alive]), Config.hdrLen]

/-- R45 (d) keeps the DEAD phase apart from KEYING, so that the state check of PWB is that of the phase. -/
theorem State.phase_eq_keying_iff (inv : s.Inv) : s.phase = .keying ↔ ¬ (s.role = .none ∨ s.hdrCnt ≠ 0#4) := by
  obtain ⟨-, -, -, deadInv⟩ := inv
  by_cases raw : s.role = .none
  · simp [State.phase_eq_raw_iff.2 raw, raw]
  · cases dead : s.dead with
    | true => simp [State.phase_of_dead raw dead, (deadInv dead).2.2]
    | false => rw [State.phase_of_alive raw dead]; split_ifs <;> simp [*]

/-! ### The legality table -/

/-- What an entry of the legality table says of the checks that a command makes (R273, R274). -/
inductive Verdict (i : Instr) (s : State) : Legality → Prop where
  | badState (wrong : wrongPhase i s) : Verdict i s .badState
  | adapterDead (c : Byte) (data : i = .dbyte c) (dec : s.role = .dec) (dead : s.dead = true) : Verdict i s .adapterDead
  | ok (right : ¬ wrongPhase i s) (alive : movesData i → s.dead = false) : Verdict i s .ok

/-- A command that is legal in one phase alone and moves no data. -/
theorem verdict_of_onePhase {i : Instr} {p : Phase}
    (row : legality i s.role s.phase = if s.phase = p then .ok else .badState)
    (check : s.phase = p ↔ ¬ wrongPhase i s) (noData : ¬ movesData i) :
    Verdict i s (legality i s.role s.phase) := by
  rw [row]
  split
  case isTrue here => exact .ok (check.1 here) fun data => absurd data noData
  case isFalse elsewhere => exact .badState (not_not.1 (mt check.2 elsewhere))

theorem verdict_dbyte (c : Byte) : Verdict (.dbyte c) s (legality (.dbyte c) s.role s.phase) := by
  by_cases dec : s.role = .dec
  · have isOpen : s.role ≠ .none := by simp [dec]
    cases dead : s.dead with
    | true => rw [State.phase_of_dead isOpen dead, dec]; exact .adapterDead c rfl dec dead
    | false =>
      rw [State.phase_of_alive isOpen dead, dec]
      split_ifs <;> exact .ok (not_not_intro dec) fun _ => dead
  · have row : legality (.dbyte c) s.role s.phase = .badState := by
      cases role : s.role with
      | dec => exact absurd role dec
      | none | enc => rfl
    rw [row]
    exact .badState dec

/-- EBYTE and EHDR share a row; by R45 (c) an encrypting stream is alive and in KEYING or PAYLOAD. -/
theorem legality_ehdr (inv : s.Inv) : legality .ehdr s.role s.phase = if s.role = .enc then .ok else .badState := by
  obtain ⟨-, -, encInv, -⟩ := inv
  cases role : s.role with
  | none | dec => rfl
  | enc =>
    obtain ⟨-, alive, zero | full⟩ := encInv role
    · rw [State.phase_of_alive (by simp [role]) alive, if_pos zero]; rfl
    · rw [State.phase_of_alive (by simp [role]) alive, full]; rfl

theorem verdict_encrypting {i : Instr} (inv : s.Inv) (row : legality i s.role s.phase = legality .ehdr s.role s.phase)
    (check : wrongPhase i s ↔ s.role ≠ .enc) : Verdict i s (legality i s.role s.phase) := by
  rw [row, legality_ehdr inv]
  obtain ⟨-, -, encInv, -⟩ := inv
  split
  case isTrue enc => exact .ok (fun wrong => check.1 wrong enc) fun _ => (encInv enc).2.1
  case isFalse other => exact .badState (check.2 other)

theorem verdict (i : Instr) (inv : s.Inv) : Verdict i s (legality i s.role s.phase) := by
  cases i with
  | close | rdreg _ => exact .ok id (by simp [movesData])
  | pwb _ => exact verdict_of_onePhase rfl (State.phase_eq_keying_iff inv) (by simp [movesData])
  | dbyte c => exact verdict_dbyte c
  | ebyte _ | ehdr => exact verdict_encrypting inv rfl Iff.rfl
  | _ => exact verdict_of_onePhase rfl (State.phase_eq_raw_iff.trans not_not.symm) (by simp [movesData])

end

/-- The status that a command's own rule decides once the decoder and the table let it pass (R275 to R277). -/
def ruleStatus (i : Instr) (s : State) : BitVec 4 :=
  match i with
  | .openDec => if s.metaEnc then 0#4 else 4#4
  | .openEnc => if s.metaEnc then 0#4 else 5#4
  | .dbyte c => if s.hdrCnt = 11#4 ∧ s.verify = true ∧ (decByte s.keys c).1 ≠ s.vbyte then 6#4 else 0#4
  | _ => 0#4

theorem ruleStatus_ne (i : Instr) (s : State) : ruleStatus i s ≠ 2#4 ∧ ruleStatus i s ≠ 3#4 := by
  unfold ruleStatus
  split
  case h_4 => decide
  all_goals split_ifs <;> decide

theorem Effect.status_eq_ruleStatus {i : Instr} {s t : State} (h : Effect i s t) (wf : i.WellFormed)
    (right : ¬ wrongPhase i s) (alive : movesData i → s.dead = false) : t.resp.status = ruleStatus i s := by
  cases h with
  | illegal _ _ ill => rw [wf] at ill; cases ill
  | badState _ _ wrong => exact absurd wrong right
  | adapterDead _ _ data _ dead => rw [alive data] at dead; cases dead
  | notEncrypted _ _ enc | encFlagNotSet _ _ enc | openDec _ _ enc | openEnc _ _ enc =>
    simp [ruleStatus, enc, FaultCode.code]
  | dbyteInvalid _ _ _ _ last verify differs => exact (if_pos ⟨last, verify, differs⟩).symm
  | dbyteHeader _ _ _ _ _ accepted => exact (if_neg accepted).symm
  | dbytePayload _ _ _ _ done =>
    have notLast : s.hdrCnt ≠ 11#4 := fun last => done (by rw [last]; decide)
    exact (if_neg fun last => notLast last.1).symm
  | _ => rfl

section
variable {i : Instr} {s : State} (wf : i.WellFormed) (inv : s.Inv)
include wf inv

theorem exec_of_badState_entry (entry : legality i s.role s.phase = .badState) : exec i s = .next (s.faulted 2#4) := by
  have checks := verdict i inv
  rw [entry] at checks
  cases checks with
  | badState wrong => exact exec_of_wrongPhase wf wrong

theorem exec_of_ok_entry (entry : legality i s.role s.phase = .ok) :
    ∃ t, exec i s = .next t ∧ t.resp.status = ruleStatus i s := by
  have checks := verdict i inv
  rw [entry] at checks
  cases checks with
  | ok right alive =>
    obtain ⟨t, ht⟩ := exec_exists_next i s
    exact ⟨t, ht, (exec_effect i s t ht).status_eq_ruleStatus wf right alive⟩

omit wf

theorem exec_of_adapterDead_entry (entry : legality i s.role s.phase = .adapterDead) :
    exec i s = .next (s.faulted 3#4) := by
  have checks := verdict i inv
  rw [entry] at checks
  cases checks with
  | adapterDead c data dec dead => subst data; exact exec_dbyte_of_dead dec dead c

end

/-- Settles O34, entry by entry. -/
theorem legalityTable : Obligations.LegalityTable := by
  intro i s wf inv
  cases entry : legality i s.role s.phase with
  | badState => exact exec_of_badState_entry wf inv entry
  | adapterDead => exact exec_of_adapterDead_entry inv entry
  | ok =>
    obtain ⟨t, ht, status⟩ := exec_of_ok_entry wf inv entry
    exact ⟨t, ht, status ▸ ruleStatus_ne i s⟩

/-! ### The fault priority -/

theorem wf_of_zeroClass {d : Byte} {i j : Instr} (wf : i.WellFormed) (h : zeroClass d i = .ok j) : j.WellFormed := by
  unfold zeroClass at h
  split at h <;> cases h
  exact wf

theorem wf_of_flagsClass {d : Byte} {j : Instr} (h : flagsClass d = .ok j) : j.WellFormed := by
  unfold flagsClass at h
  split at h <;> cases h
  simpa [Instr.WellFormed, Instr.wf]

theorem wf_of_indexClass {d : Byte} {j : Instr} (h : indexClass d = .ok j) : j.WellFormed := by
  unfold indexClass at h
  split at h <;> cases h
  simpa [Instr.WellFormed, Instr.wf]

/-- The decoder answers well-formed commands only (R103): each opcode has one of the operand classes of R101. -/
theorem wf_of_decode {w : CmdWord} {i : Instr} (h : decode w = .ok i) : i.WellFormed := by
  unfold decode decodeFields at h
  split at h
  case h_14 => exact wf_of_flagsClass h
  case h_21 => exact wf_of_indexClass h
  case h_22 => cases h
  case h_1 | h_3 | h_6 | h_7 | h_8 | h_12 | h_13 => exact wf_of_zeroClass rfl h
  all_goals cases h; rfl

theorem expectedStatus_of_error {w : CmdWord} {e : DecodeError} (rejected : decode w = .error e) (s : State) :
    expectedStatus w s = 1#4 := by
  rw [expectedStatus, rejected]

section
variable {w : CmdWord} {i : Instr} {s : State} (decoded : decode w = .ok i)
include decoded

theorem expectedStatus_of_badState (entry : legality i s.role s.phase = .badState) : expectedStatus w s = 2#4 := by
  simp [expectedStatus, decoded, entry]

theorem expectedStatus_of_adapterDead (entry : legality i s.role s.phase = .adapterDead) : expectedStatus w s = 3#4 := by
  simp [expectedStatus, decoded, entry]

theorem expectedStatus_of_ok (entry : legality i s.role s.phase = .ok) : expectedStatus w s = ruleStatus i s := by
  cases i <;> simp [expectedStatus, decoded, entry, ruleStatus]

end

/-- Settles O35: decode first, then the entry of the table, then the command's own rule. -/
theorem faultPriority : Obligations.FaultPriority := by
  intro w s inv
  cases decoded : decode w with
  | error e => exact ⟨_, runWord_of_decode_error decoded s, (expectedStatus_of_error decoded s).symm⟩
  | ok i =>
    have wf := wf_of_decode decoded
    rw [runWord_of_decode_ok decoded]
    cases entry : legality i s.role s.phase with
    | badState => exact ⟨_, exec_of_badState_entry wf inv entry, (expectedStatus_of_badState decoded entry).symm⟩
    | adapterDead => exact ⟨_, exec_of_adapterDead_entry inv entry, (expectedStatus_of_adapterDead decoded entry).symm⟩
    | ok =>
      rw [expectedStatus_of_ok decoded entry]
      exact exec_of_ok_entry wf inv entry

/-! ### The DEAD condition -/

/-- What a command does while DEAD = 1: a fault, CLOSE or RDREG. -/
theorem Effect.of_dead {i : Instr} {s t : State} (h : Effect i s t) (dec : s.role = .dec) (full : s.hdrCnt = 12#4)
    (dead : s.dead = true) :
    (∃ f, t = s.raise f) ∨ (i = .close ∧ t = s.closeAdapter.respond 0) ∨ ∃ n v, i = .rdreg n ∧ t = s.respond v := by
  cases h with
  | illegal | badState | adapterDead => exact .inl ⟨_, rfl⟩
  | close => exact .inr (.inl ⟨rfl, rfl⟩)
  | rdreg _ n v => exact .inr (.inr ⟨n, v, rfl, rfl⟩)
  | pwb _ _ _ keying => rw [full] at keying; cases keying
  | dbyteInvalid _ _ _ alive | dbyteHeader _ _ _ alive | dbytePayload _ _ _ alive => rw [dead] at alive; cases alive
  | ebyte _ _ enc | ehdr _ enc => rw [dec] at enc; cases enc
  | _ =>
    have raw : s.role = .none := by assumption
    rw [dec] at raw
    cases raw

/-- Settles O40: R45 (d) fixes ROLE and HDR_CNT of a dead adapter, and three kinds of outcome are left. -/
theorem deadUntilClose : Obligations.DeadUntilClose := by
  intro i s inv dead
  obtain ⟨-, -, -, deadInv⟩ := inv
  obtain ⟨dec, -, full⟩ := deadInv dead
  refine ⟨dec, exec_dbyte_of_dead dec dead, ⟨_, exec_close s, rfl⟩, ?_⟩
  obtain ⟨t, ht⟩ := exec_exists_next i s
  refine ⟨t, ht, ?_⟩
  obtain ⟨f, rfl⟩ | ⟨rfl, rfl⟩ | ⟨n, v, rfl, rfl⟩ := (exec_effect i s t ht).of_dead dec full dead
  · exact ⟨rfl, rfl, fun _ => ⟨dead, rfl, rfl⟩, fun ok => absurd ok f.code_bounds.1⟩
  · exact ⟨rfl, rfl, fun other => absurd rfl other, fun _ => .inl rfl⟩
  · exact ⟨rfl, rfl, fun _ => ⟨dead, rfl, rfl⟩, fun _ => .inr ⟨n, rfl⟩⟩

end Sys2Proof.Machine
end

section
/-! PROOFS, the reset and hazards family: the reset event (R310). -/
namespace Sys2Proof.Machine

theorem step_of_reset {s : State} {rest : List HostEvent} (host : s.host = .reset :: rest) :
    step s = .next ({ s with host := rest } : State).resetEvent :=
  runNext_cons s .reset rest host

/-- Settles O50: the step is `resetEvent` on the state without the event, whose fields are the rows of the reset table
(R50) next to the entropy fields and the later events; the response left open is that of `State.reset`. -/
theorem resetEvent : Obligations.ResetEvent := fun _ _ host =>
  ⟨State.reset.resp, step_of_reset host⟩

end Sys2Proof.Machine
end

section
/-! PROOFS, the command words: encode and decode are inverse (R100 to R103), the assembler answers legal words only (R107,
R108). -/
namespace Sys2Proof.Machine

/-! ### The operand classes (R101) -/

theorem zeroClass_eq_ok {d : Byte} {i j : Instr} (h : zeroClass d i = .ok j) : d = 0x00#8 ∧ j = i := by
  unfold zeroClass at h
  split at h <;> cases h
  exact ⟨by assumption, rfl⟩

theorem flagsClass_eq_ok {d : Byte} {j : Instr} (h : flagsClass d = .ok j) : j = .mflags d := by
  unfold flagsClass at h
  split at h <;> cases h
  rfl

theorem indexClass_eq_ok {d : Byte} {j : Instr} (h : indexClass d = .ok j) : j = .rdreg d := by
  unfold indexClass at h
  split at h <;> cases h
  rfl

/-- The opcodes of R103. -/
def assignedOpcodes : List Nat :=
  [0x01, 0x02, 0x03, 0x04, 0x05, 0x10, 0x11, 0x12, 0x13, 0x14, 0x15, 0x16, 0x17, 0x20, 0x21, 0x22, 0x23, 0x24, 0x25,
    0x26, 0x30]

/-- The opcodes of the `zero` class. -/
def zeroOpcodes : List Nat := [0x01, 0x03, 0x10, 0x11, 0x12, 0x16, 0x17]

/-- The rows of the opcode map by operand class: what the decoder does with an opcode and a DATA byte. -/
inductive OpcodeRow (op d : Byte) : Except DecodeError Instr → Prop where
  | zero (i : Instr) (listed : op.toNat ∈ zeroOpcodes) (opcode : opcodeOf i = op) (data : dataOf i = 0x00#8) :
      OpcodeRow op d (zeroClass d i)
  | imm8 (i : Instr) (assigned : op.toNat ∈ assignedOpcodes) (notZero : op.toNat ∉ zeroOpcodes)
      (notFlags : op ≠ 0x20#8) (notIndex : op ≠ 0x30#8) (opcode : opcodeOf i = op) (data : dataOf i = d) :
      OpcodeRow op d (.ok i)
  | flags (opcode : op = 0x20#8) : OpcodeRow op d (flagsClass d)
  | index (opcode : op = 0x30#8) : OpcodeRow op d (indexClass d)
  | unassigned (free : op.toNat ∉ assignedOpcodes) : OpcodeRow op d (.error .unassignedOpcode)

/-- The decoder's table has one row for every opcode byte. -/
theorem decodeFields_row (op d : Byte) : OpcodeRow op d (decodeFields op d) := by
  unfold decodeFields
  split
  case h_14 h => exact .flags (BitVec.eq_of_toNat_eq h)
  case h_21 h => exact .index (BitVec.eq_of_toNat_eq h)
  case h_22 => exact .unassigned (by simp_all [assignedOpcodes])
  case h_1 h | h_3 h | h_6 h | h_7 h | h_8 h | h_12 h | h_13 h =>
    exact .zero _ (h ▸ by decide) (BitVec.eq_of_toNat_eq h.symm) rfl
  all_goals
    rename_i h
    have byte : op = BitVec.ofNat 8 op.toNat := (BitVec.ofNat_toNat 8 op).symm
    rw [h] at byte
    subst byte
    exact .imm8 _ (by decide) (by decide) (by decide) (by decide) rfl rfl

/-! ### Encode and decode -/

/-- Settles O2: the decoder reads OP and DATA back from the word, and a well-formed operand is in its class. -/
theorem encodeThenDecode : Obligations.EncodeThenDecode := by
  intro i wf
  refine (decode_cmdWord (opcodeOf i) (dataOf i)).trans ?_
  cases i with
  | mflags f => exact if_pos (eq_of_beq wf)
  | rdreg n => exact if_pos (of_decide_eq_true wf)
  | _ => rfl

/-- The command the decoder reads carries both bytes of the word. -/
theorem fields_of_decodeFields {op d : Byte} {i : Instr} (h : decodeFields op d = .ok i) :
    opcodeOf i = op ∧ dataOf i = d := by
  have row := decodeFields_row op d
  generalize decodeFields op d = answer at h row
  cases row with
  | zero j _ opcode data =>
    obtain ⟨rfl, rfl⟩ := zeroClass_eq_ok h
    exact ⟨opcode, data⟩
  | imm8 j _ _ _ _ opcode data => cases h; exact ⟨opcode, data⟩
  | flags opcode => rw [flagsClass_eq_ok h, opcode]; exact ⟨rfl, rfl⟩
  | index opcode => rw [indexClass_eq_ok h, opcode]; exact ⟨rfl, rfl⟩
  | unassigned => cases h

/-- A word is its OP and its DATA (R100). -/
theorem cmdWord_fields (w : CmdWord) : cmdWord (opField w) (dataField w) = w :=
  (BitVec.extractLsb'_append_extractLsb'_eq_extractLsb' (x := w) (by decide)).trans BitVec.extractLsb'_eq_self

/-- Settles O3: the two fields of the command are those of the word. -/
theorem decodeThenEncode : Obligations.DecodeThenEncode := by
  intro w i h
  obtain ⟨opcode, data⟩ := fields_of_decodeFields h
  refine ⟨?_, wf_of_decode h⟩
  rw [encode, opcode, data]
  exact cmdWord_fields w

theorem zeroOpcodes_assigned : ∀ n ∈ zeroOpcodes, n ∈ assignedOpcodes := by decide

/-- Settles O4: the clauses hold row by row; the fields of an accepted command are those of the word. -/
theorem decodeChecksInOrder : Obligations.DecodeChecksInOrder := by
  intro op d assigned zeroOp
  rw [decode_cmdWord]
  have accepted : ∀ i, decodeFields op d = .ok i → ∃ i, decodeFields op d = .ok i ∧ opcodeOf i = op ∧ dataOf i = d :=
    fun i h => ⟨i, h, fields_of_decodeFields h⟩
  have row := decodeFields_row op d
  generalize decodeFields op d = answer at accepted row ⊢
  cases row with
  | zero i listed =>
    have notFlags : op ≠ 0x20#8 := by rintro rfl; exact absurd listed (by decide)
    have notIndex : op ≠ 0x30#8 := by rintro rfl; exact absurd listed (by decide)
    exact ⟨fun free => absurd (zeroOpcodes_assigned _ listed) free, fun _ nonzero => if_neg nonzero,
      fun flags => absurd flags notFlags, fun index => absurd index notIndex,
      fun _ zero _ _ => accepted i (if_pos (zero listed))⟩
  | imm8 i isAssigned notZero notFlags notIndex =>
    exact ⟨fun free => absurd isAssigned free, fun zero => absurd zero notZero, fun flags => absurd flags notFlags,
      fun index => absurd index notIndex, fun _ _ _ _ => accepted i rfl⟩
  | flags opcode =>
    subst opcode
    exact ⟨fun free => absurd (by decide) free, fun zero => absurd zero (by decide), fun _ => flagsClass_of_ge,
      fun index => absurd index (by decide), fun _ _ legal _ => accepted _ (flagsClass_of_lt (legal rfl))⟩
  | index opcode =>
    subst opcode
    exact ⟨fun free => absurd (by decide) free, fun zero => absurd zero (by decide), fun flags => absurd flags (by decide),
      fun _ => indexClass_of_gt d, fun _ _ _ legal => accepted _ (indexClass_of_le d (legal rfl))⟩
  | unassigned free =>
    have notZero : ¬ zeroOp := fun zero => free (zeroOpcodes_assigned _ zero)
    have notFlags : op ≠ 0x20#8 := by rintro rfl; exact free (by decide)
    have notIndex : op ≠ 0x30#8 := by rintro rfl; exact free (by decide)
    exact ⟨fun _ => rfl, fun zero => absurd zero notZero, fun flags => absurd flags notFlags,
      fun index => absurd index notIndex, fun isAssigned => absurd isAssigned free⟩

/-- Settles O1: each word by its row of the opcode map. -/
theorem sampleWordsDecode : Obligations.SampleWordsDecode := by
  unfold Obligations.SampleWordsDecode
  decide

/-! ### The assembler -/

/-- The bits of the MFLAGS operand that MLOAD builds (R108). -/
theorem mload_flags_bits (enc dd : Bool) :
    0#6 ++ BitVec.ofBool dd ++ BitVec.ofBool enc = BitVec.ofNat 8 (2 * dd.toNat + enc.toNat) := by
  cases enc <;> cases dd <;> rfl

theorem mload_flags_toNat_lt (enc dd : Bool) : (0#6 ++ BitVec.ofBool dd ++ BitVec.ofBool enc : Byte).toNat < 4 := by
  cases enc <;> cases dd <;> decide

/-- Settles O59: the model's expansion with the bytes of its operands cut out by shifts. -/
theorem pseudoExpansions : Obligations.PseudoExpansions := by
  refine ⟨fun _ => rfl, fun _ => rfl, fun enc dd t c => ?_, fun _ => rfl, fun bs => ?_, rfl⟩
  · rw [expand, mload_flags_bits]
    rfl
  · cases bs <;> rfl

theorem mflags_wellFormed {f : Byte} (legal : f.toNat < 4) : (Instr.mflags f).WellFormed :=
  beq_iff_eq.2 ((flags_reserved_eq_zero_iff f).2 legal)

theorem rdreg_wellFormed {n : Byte} (legal : n.toNat ≤ 5) : (Instr.rdreg n).WellFormed :=
  decide_eq_true (BitVec.le_def.2 legal)

/-- A pseudo-instruction expands to well-formed commands. -/
theorem expand_wellFormed (p : Pseudo) : ∀ i ∈ expand p, i.WellFormed := by
  cases p with
  | mload enc dd t c =>
    simp only [expand, List.forall_mem_cons, List.not_mem_nil, false_imp_iff, implies_true, and_true]
    exact ⟨mflags_wellFormed (mload_flags_toNat_lt enc dd), rfl, rfl, rfl, rfl, rfl, rfl⟩
  | rdkeys => simp [expand]; decide
  | encrypt bs => cases bs <;> simp [expand, Instr.WellFormed, Instr.wf]
  | kinitPw | password | decrypt => simp [expand, Instr.WellFormed, Instr.wf]

theorem except_map_eq_ok {ε α β : Type} {f : α → β} {x : Except ε α} {b : β} :
    x.map f = .ok b ↔ ∃ a, x = .ok a ∧ f a = b := by
  cases x <;> simp [Except.map]

theorem readBounded_le {max n : Nat} {t : List Char} (h : readBounded max t = .ok n) : n ≤ max := by
  unfold readBounded at h
  split at h
  · split at h <;> cases h
    assumption
  · cases h

theorem readUpTo_le {max : Nat} {t : List Char} {b : Byte} (h : readUpTo max t = .ok b) : b.toNat ≤ max := by
  obtain ⟨n, read, rfl⟩ := except_map_eq_ok.1 h
  rw [BitVec.toNat_ofNat]
  exact (Nat.mod_le _ _).trans (readBounded_le read)

/-- R107: an MFLAGS operand is 0 to 3, by number or by name. -/
theorem readFlags_lt {t : List Char} {f : Byte} (h : readFlags t = .ok f) : f.toNat < 4 := by
  unfold readFlags at h
  repeat' split at h
  case isFalse => exact Nat.lt_succ_of_le (readUpTo_le h)
  all_goals cases h; decide

/-- R107: an RDREG operand is 0 to 5, by number or by name. -/
theorem readIndex_le {t : List Char} {n : Byte} (h : readIndex t = .ok n) : n.toNat ≤ 5 := by
  unfold readIndex at h
  repeat' split at h
  case isFalse => exact readUpTo_le h
  all_goals cases h; decide

/-- A row of the mnemonics builds well-formed commands from every operand its form accepts. -/
def AsmForm.Legal : AsmForm → Prop
  | .zero i => i.WellFormed
  | .imm8 f => ∀ b, (f b).WellFormed
  | .flags | .index => True

theorem mnemonics_legal : ∀ row ∈ mnemonics, row.2.Legal := by
  simp [mnemonics, AsmForm.Legal, Instr.WellFormed, Instr.wf]

theorem assembleCommand_wellFormed {f : AsmForm} (legal : f.Legal) {operands : List (List Char)} {i : Instr}
    (h : assembleCommand f operands = .ok i) : i.WellFormed := by
  unfold assembleCommand at h
  split at h
  case h_1 => cases h; exact legal
  case h_2 =>
    obtain ⟨b, -, rfl⟩ := except_map_eq_ok.1 h
    exact legal b
  case h_3 =>
    obtain ⟨f, read, rfl⟩ := except_map_eq_ok.1 h
    exact mflags_wellFormed (readFlags_lt read)
  case h_4 =>
    obtain ⟨n, read, rfl⟩ := except_map_eq_ok.1 h
    exact rdreg_wellFormed (readIndex_le read)
  case h_5 => cases h

/-- The word of a line is the word of a well-formed command. -/
theorem assembleLine_eq_encode {line : List Char} {w : CmdWord} (h : assembleLine line = .ok (some w)) :
    ∃ i : Instr, i.WellFormed ∧ encode i = w := by
  unfold assembleLine at h
  split at h
  · cases h
  · split at h
    case h_1 row found =>
      obtain ⟨i, assembled, word⟩ := except_map_eq_ok.1 h
      exact ⟨i, assembleCommand_wellFormed (mnemonics_legal row (List.mem_of_find?_eq_some found)) assembled,
        Option.some.inj word⟩
    case h_2 => cases h

theorem assembleSource_eq_encode {line : List Char} {ws : List CmdWord} (h : assembleSource line = .ok ws) {w : CmdWord}
    (mem : w ∈ ws) : ∃ i : Instr, i.WellFormed ∧ encode i = w := by
  simp only [assembleSource] at h
  split at h
  case h_1 answer _ =>
    obtain ⟨p, -, rfl⟩ := except_map_eq_ok.1 h
    obtain ⟨i, expanded, rfl⟩ := List.mem_map.1 mem
    exact ⟨i, expand_wellFormed p i expanded, rfl⟩
  case h_2 =>
    obtain ⟨o, assembled, rfl⟩ := except_map_eq_ok.1 h
    rw [Option.mem_toList.1 mem] at assembled
    exact assembleLine_eq_encode assembled

/-- Settles O60: every assembled word is the word of a well-formed command, which the decoder reads back. -/
theorem assemblerGivesLegalWords : Obligations.AssemblerGivesLegalWords := by
  refine ⟨fun line w h => ?_, fun line ws h w mem => ?_⟩
  · obtain ⟨i, wf, rfl⟩ := assembleLine_eq_encode h
    exact ⟨i, encodeThenDecode i wf⟩
  · obtain ⟨i, wf, rfl⟩ := assembleSource_eq_encode h mem
    exact ⟨i, encodeThenDecode i wf⟩

end Sys2Proof.Machine
end

section
/-! PROOFS, the pure functions of the KeyState (R81 to R83, R131 to R139). -/
namespace Sys2Proof.Machine

/-! ### The table -/

/-- Settles O5: the 256 entries, each computed by the generator. -/
theorem lutMatchesGenerator : Obligations.LutMatchesGenerator := by
  unfold Obligations.LutMatchesGenerator
  decide

/-- Settles O6: the nine steps of the check value, and the four entries. -/
theorem lutSelfCheck : Obligations.LutSelfCheck := by
  unfold Obligations.LutSelfCheck
  decide

/-! ### UPDATE -/

/-- The index of R131 in the words of the rule, `(c ^ x) & 0xFF`, is the exclusive or of the low bytes. -/
theorem low_byte_xor (c x : Word) : ((c ^^^ x) &&& 0xFF#32).truncate 8 = c.extractLsb' 0 8 ^^^ x.extractLsb' 0 8 := by
  have mask : ∀ (k : Nat) (hk : k < 8), (0xFF#8)[k] = true := by decide
  ext k hk
  simp [mask k hk]

theorem zext32_low_byte (b : Byte) : (zext32 b).extractLsb' 0 8 = b := by
  ext k hk
  have fits : k < 32 := by omega
  simp [zext32, fits, hk]

theorem shiftRight_low_byte (x : Word) : (x >>> 24).extractLsb' 0 8 = x.extractLsb' 24 8 := by
  ext k hk
  simp

theorem low_byte_toNat (x : Word) : (x.extractLsb' 0 8).toNat = x.toNat % 256 := by
  rw [BitVec.extractLsb'_toNat, Nat.shiftRight_zero]

/-- The worked example of R132. -/
theorem update_example : update ⟨0x12345678#32, 0x23456789#32, 0x34567890#32⟩ 0x70#8 =
    ⟨0x0EC9BC64#32, 0x21593BA2#32, 0xBC52D562#32⟩ := by decide

/-- Settles O7: the K0 and K2 steps differ from the rule's text in how the index byte is cut out; the K1 step is
`lcg_toNat`. -/
theorem updateRecurrence : Obligations.UpdateRecurrence := by
  refine ⟨fun k b => ⟨?_, ?_, ?_⟩, update_example⟩
  · rw [low_byte_xor, zext32_low_byte]
    rfl
  · exact (lcg_toNat k.k1 _ _).trans (by rw [low_byte_toNat]; rfl)
  · rw [low_byte_xor, shiftRight_low_byte]
    rfl

/-! ### KSBYTE -/

theorem ksByte_toNat (k2 : Word) :
    (ksByte k2).toNat = ((k2 ||| 2#32).toNat * ((k2 ||| 2#32) ^^^ 1#32).toNat) % 2 ^ 32 / 256 % 256 := by
  rw [ksByte, BitVec.extractLsb'_toNat, BitVec.toNat_mul, Nat.shiftRight_eq_div_pow]

/-- Settles O8: bits 15:8 of a product are below the width it is cut to. -/
theorem keystreamByteFormula : Obligations.KeystreamByteFormula := by
  refine ⟨fun k2 => ⟨ksByte_toNat k2, ?_⟩, by decide⟩
  rw [ksByte_toNat]
  omega

/-- The two factors of R134 differ in bit 0 only, so they are one even and the next odd number, in one order or the
other. -/
theorem or_two_xor_one (x : Nat) :
    (x ||| 2 = 4 * (x / 4) + 2 ∧ (x ||| 2) ^^^ 1 = 4 * (x / 4) + 3) ∨
    (x ||| 2 = 4 * (x / 4) + 3 ∧ (x ||| 2) ^^^ 1 = 4 * (x / 4) + 2) := by
  have high : (x ||| 2) / 4 = x / 4 := by simpa using Nat.or_div_two_pow (a := x) (b := 2) (n := 2)
  have high' : ((x ||| 2) ^^^ 1) / 4 = x / 4 := by
    simpa [high] using Nat.xor_div_two_pow (a := x ||| 2) (b := 1) (n := 2)
  have low : (x ||| 2) % 4 = x % 4 ||| 2 := Nat.or_mod_two_pow (n := 2)
  have low' : ((x ||| 2) ^^^ 1) % 4 = (x % 4 ||| 2) ^^^ 1 := low ▸ Nat.xor_mod_two_pow (n := 2)
  have bits : ∀ r < 4, (r ||| 2 = 2 ∧ (r ||| 2) ^^^ 1 = 3) ∨ (r ||| 2 = 3 ∧ (r ||| 2) ^^^ 1 = 2) := by decide
  obtain ⟨h, h'⟩ | ⟨h, h'⟩ := bits (x % 4) (Nat.mod_lt _ (by decide))
  · rw [h] at low
    rw [h'] at low'
    omega
  · rw [h] at low
    rw [h'] at low'
    omega

/-- The product of R134 as a polynomial in K2 above bit 1. -/
theorem ksByte_product (k2 : Word) :
    (k2 ||| 2#32).toNat * ((k2 ||| 2#32) ^^^ 1#32).toNat = (4 * (k2.toNat / 4) + 2) * (4 * (k2.toNat / 4) + 3) := by
  rw [BitVec.toNat_xor, BitVec.toNat_or]
  obtain ⟨even, odd⟩ | ⟨odd, even⟩ := or_two_xor_one k2.toNat
  · exact congrArg₂ (· * ·) even odd
  · exact (congrArg₂ (· * ·) odd even).trans (Nat.mul_comm _ _)

/-- KSBYTE from K2[15:2] alone: bits 15:8 of a product depend on bits 15:0 of its factors. -/
theorem ksByte_of_field (k2 : Word) :
    (ksByte k2).toNat =
      (4 * (k2.extractLsb' 2 14).toNat + 2) * (4 * (k2.extractLsb' 2 14).toNat + 3) / 256 % 256 := by
  have field : (k2.extractLsb' 2 14).toNat = k2.toNat / 4 % 2 ^ 14 := by
    rw [BitVec.extractLsb'_toNat, Nat.shiftRight_eq_div_pow]
  have same (r : Nat) : 4 * (k2.toNat / 4) + r ≡ 4 * (k2.extractLsb' 2 14).toNat + r [MOD 256 * 256] := by
    rw [field, Nat.ModEq]
    omega
  rw [(keystreamByteFormula.1 k2).2, ksByte_product, ← Nat.mod_mul_right_div_self, ← Nat.mod_mul_right_div_self,
    (same 2).mul (same 3)]

theorem ksByte_eq_of_field_eq {a b : Word} (h : a.extractLsb' 2 14 = b.extractLsb' 2 14) : ksByte a = ksByte b :=
  BitVec.eq_of_toNat_eq (by rw [ksByte_of_field, ksByte_of_field, h])

/-- A mask with no bit in 15:2 leaves that field. -/
theorem field_xor_low (k2 m : Word) (low : m.extractLsb' 2 14 = 0#14) :
    (k2 ^^^ m).extractLsb' 2 14 = k2.extractLsb' 2 14 := by
  rw [BitVec.extractLsb'_xor, low, BitVec.xor_zero]

theorem field_and_low16 (k2 : Word) : (k2 &&& 0xFFFF#32).extractLsb' 2 14 = k2.extractLsb' 2 14 := by
  have ones : (0xFFFF#32).extractLsb' 2 14 = BitVec.allOnes 14 := by decide
  rw [BitVec.extractLsb'_and, ones, BitVec.and_allOnes]

/-- Settles O9: the three changes keep K2[15:2], and the polynomial is evaluated at the two ends of its range. -/
theorem keystreamByteSymmetries : Obligations.KeystreamByteSymmetries := by
  refine ⟨fun k2 => ⟨?_, ?_, ?_⟩, fun a b h => ksByte_eq_of_field_eq h, fun k2 ends => BitVec.eq_of_toNat_eq ?_⟩
  · exact ksByte_eq_of_field_eq (field_xor_low k2 _ (by decide)).symm
  · exact ksByte_eq_of_field_eq (field_xor_low k2 _ (by decide)).symm
  · exact ksByte_eq_of_field_eq (field_and_low16 k2).symm
  · rw [ksByte_of_field]
    obtain zero | ones := ends
    · rw [zero]; rfl
    · rw [ones]; rfl

/-! ### INIT, ENCBYTE and DECBYTE -/

/-- Settles O10: INIT is a left fold. -/
theorem passwordInitialisation : Obligations.PasswordInitialisation :=
  ⟨rfl, fun pw b => updateAll_append Keys.init pw [b], initKeys_password⟩

/-- R139 over a sequence: each decrypted byte is the plaintext, and so the keys stay those of the encryption. -/
theorem decBytes_encBytes (k : Keys) (ps : List Byte) : decBytes k (encBytes k ps).1 = (ps, (encBytes k ps).2) := by
  induction ps generalizing k with
  | nil => rfl
  | cons p ps ih => simp [encBytes, decBytes, decByte_encByte, ih]

/-- Settles O11, by `decByte_encByte` and its induction over the sequence. -/
theorem decryptInvertsEncrypt : Obligations.DecryptInvertsEncrypt := by
  refine ⟨fun k k' p c encrypted => ?_, fun k k' ps cs encrypted => ?_⟩
  · simpa [encrypted] using decByte_encByte k p
  · simpa only [encrypted] using decBytes_encBytes k ps

end Sys2Proof.Machine
end

section
/-! PROOFS, what a command leaves unchanged: STICKY_ERR without effect (R39), the key writers (R32), the frozen metadata
(R40 to R43), OUT (R72), the entropy port (R73), HDR_CNT (R36). -/
namespace Sys2Proof.Machine

/-! ### The header generation where it is due -/

theorem State.headerIfDue_of_lt {s : State} (due : s.hdrCnt < 12#4) : s.headerIfDue = s.afterHeader :=
  (if_pos due).trans s.emitHeader_eq_afterHeader

theorem State.headerIfDue_of_done {s : State} (done : ¬ s.hdrCnt < 12#4) : s.headerIfDue = s := if_neg done

theorem State.headerIfDue_cases (s : State) :
    (s.hdrCnt < 12#4 ∧ s.headerIfDue = s.afterHeader) ∨ (¬ s.hdrCnt < 12#4 ∧ s.headerIfDue = s) := by
  by_cases due : s.hdrCnt < 12#4
  · exact .inl ⟨due, State.headerIfDue_of_lt due⟩
  · exact .inr ⟨due, State.headerIfDue_of_done due⟩

theorem State.headerIfDue_sameMeta (s : State) : SameMeta s s.headerIfDue := by
  obtain ⟨-, h⟩ | ⟨-, h⟩ := s.headerIfDue_cases <;> rw [h] <;> exact ⟨rfl, rfl, rfl, rfl⟩

theorem State.headerIfDue_host (s : State) : s.headerIfDue.host = s.host := by
  obtain ⟨-, h⟩ | ⟨-, h⟩ := s.headerIfDue_cases
  · rw [h]; rfl
  · rw [h]

theorem State.headerIfDue_hdrCnt (s : State) : s.headerIfDue.hdrCnt = if s.hdrCnt < 12#4 then 12#4 else s.hdrCnt := by
  obtain ⟨due, h⟩ | ⟨done, h⟩ := s.headerIfDue_cases
  · rw [h, if_pos due]; rfl
  · rw [h, if_neg done]

/-! ### STICKY_ERR -/

/-- Two answers that differ in STICKY_ERR at most, if the first is a next state. -/
def SameUpToSticky (o o' : Result) : Prop :=
  ∀ t, o = .next t → ∃ y, o' = .next { t with stickyErr := y }

theorem SameUpToSticky.next (t : State) (y : BitVec 4) : SameUpToSticky (.next t) (.next { t with stickyErr := y }) := by
  intro u h
  cases h
  exact ⟨y, rfl⟩

theorem SameUpToSticky.ite {c : Prop} [Decidable c] {x y x' y' : Result} (hx : SameUpToSticky x x')
    (hy : SameUpToSticky y y') : SameUpToSticky (if c then x else y) (if c then x' else y') := by
  split
  · exact hx
  · exact hy

section
variable (s : State) (x : BitVec 4)

theorem State.headerByte_sameUpToSticky (p : Byte) :
    SameUpToSticky (.next (s.headerByte p)) (.next (State.headerByte { s with stickyErr := x } p)) := by
  rw [State.headerByte_eq, State.headerByte_eq, apply_ite Host.Outcome.next, apply_ite Host.Outcome.next]
  exact .ite (.next _ _) (.next _ _)

theorem State.afterHeader_withSticky :
    State.afterHeader { s with stickyErr := x } = { s.afterHeader with stickyErr := x } := by
  have plain : State.salt { s with stickyErr := x } ++ [State.vbyte { s with stickyErr := x }] = s.salt ++ [s.vbyte] := rfl
  simp only [State.afterHeader, plain]

theorem State.headerIfDue_withSticky :
    State.headerIfDue { s with stickyErr := x } = { s.headerIfDue with stickyErr := x } := by
  obtain ⟨due, h⟩ | ⟨done, h⟩ := s.headerIfDue_cases
  · rw [h, State.headerIfDue_of_lt (s := { s with stickyErr := x }) due, State.afterHeader_withSticky]
  · rw [h, State.headerIfDue_of_done (s := { s with stickyErr := x }) done]

/-- Of the six registers only STATUS holds STICKY_ERR (R46, R47). -/
theorem State.readReg_withSticky {n : Byte} (other : n ≠ 3#8) :
    State.readReg { s with stickyErr := x } n = s.readReg n := by
  unfold State.readReg
  split
  case h_4 status => exact absurd (BitVec.eq_of_toNat_eq status) other
  all_goals rfl

/-- No check of a command reads STICKY_ERR, and no outcome but the STATUS word does. -/
theorem exec_sameUpToSticky {i : Instr} (other : i ≠ .rdreg 3#8) :
    SameUpToSticky (exec i s) (exec i { s with stickyErr := x }) := by
  cases i with
  | close => exact .next _ _
  | rdreg n =>
    have reads : State.readReg { s with stickyErr := x } n = s.readReg n :=
      s.readReg_withSticky x fun status => other (congrArg Instr.rdreg status)
    rw [exec, exec, execRdreg, execRdreg, reads]
    cases s.readReg n with
    | none => exact .next _ _
    | some v => exact .next _ _
  | dbyte c => exact .ite (.next _ _) (.ite (.next _ _) (.ite (State.headerByte_sameUpToSticky _ x _) (.next _ _)))
  | ebyte p =>
    rw [exec, exec, execEbyte, execEbyte, State.headerIfDue_withSticky s x]
    exact .ite (.next _ _) (.ite (.next _ _) (.next _ _))
  | ehdr =>
    rw [exec, exec, execEhdr, execEhdr, State.headerIfDue_withSticky s x]
    exact .ite (.next _ _) (.ite (.next _ _) (.next _ _))
  | openDec | openEnc | mflags _ => exact .ite (.next _ _) (.ite (.next _ _) (.next _ _))
  | kinit | kupd _ | ksb | kenc _ | kdec _ | openDecNv | pwb _ | mtimeLo _ | mtimeHi _ | mcrc0 _ | mcrc1 _ | mcrc2 _
  | mcrc3 _ => exact .ite (.next _ _) (.next _ _)

end

/-- Settles O38. -/
theorem stickyErrHasNoEffect : Obligations.StickyErrHasNoEffect :=
  fun _ s t x other h => exec_sameUpToSticky s x other t h

/-! ### Keys and metadata -/

/-- Settles O41: the outcomes of the other commands do not write the keys. -/
theorem keysWrittenOnlyByNamedCommands : Obligations.KeysWrittenOnlyByNamedCommands := by
  intro i s t h notWriter
  cases exec_effect i s t h with
  | kinit | kupd | kenc | kdec | openDec | openDecNv | openEnc | pwb | dbyteInvalid | dbyteHeader | dbytePayload | ebyte
  | ehdr => cases notWriter
  | _ => rfl

/-- Settles O42: a load needs raw mode, and no other outcome writes a metadata register. -/
theorem metadataFrozenWhileOpen : Obligations.MetadataFrozenWhileOpen := by
  intro i s t h frozen
  cases exec_effect i s t h with
  | mflags _ _ raw | mtimeLo _ _ raw | mtimeHi _ _ raw | mcrc0 _ _ raw | mcrc1 _ _ raw | mcrc2 _ _ raw | mcrc3 _ _ raw =>
    obtain notLoad | isOpen := frozen
    · cases notLoad
    · exact absurd raw isOpen
  | ebyte | ehdr => exact s.headerIfDue_sameMeta
  | _ => exact ⟨rfl, rfl, rfl, rfl⟩

/-! ### OUT and the entropy port -/

/-- A command that moves no byte: nothing emitted, nothing drawn, and nothing due by its rule. -/
structure MovesNoByte (i : Instr) (s t : State) : Prop where
  emitCount_zero : emitCount i s = 0
  no_header : makesHeader i s = false
  out_eq : t.out = s.out
  port_eq : t.entropyPort = s.entropyPort ∧ t.entropy = s.entropy ∧ t.draws = s.draws

/-- A fault that no stream command gets past: an illegal operand, the wrong phase, a dead adapter. -/
theorem counts_zero_of_fault {i : Instr} {s : State} (fault : i.wf = false ∨ wrongPhase i s ∨ s.dead = true) :
    emitCount i s = 0 ∧ makesHeader i s = false := by
  cases i with
  | dbyte | ebyte | ehdr =>
    obtain ill | wrong | dead := fault
    · cases ill
    · simp only [wrongPhase] at wrong
      simp [emitCount, makesHeader, wrong]
    · simp [emitCount, makesHeader, dead]
  | _ => exact ⟨rfl, rfl⟩

theorem MovesNoByte.of_raise {i : Instr} {s : State} (f : FaultCode)
    (fault : i.wf = false ∨ wrongPhase i s ∨ s.dead = true) : MovesNoByte i s (s.raise f) :=
  ⟨(counts_zero_of_fault fault).1, (counts_zero_of_fault fault).2, rfl, rfl, rfl, rfl⟩

/-- The outcomes of a command by the bytes they move: none, one decrypted payload byte, or the output of the encrypting
stream. -/
inductive ByteFlow : Instr → State → State → Prop where
  | none {i : Instr} {s t : State} (same : MovesNoByte i s t) : ByteFlow i s t
  | payload (s : State) (c : Byte) (counted : emitCount (.dbyte c) s = 1) :
      ByteFlow (.dbyte c) s (((s.setKeys (decByte s.keys c).2).emit (decByte s.keys c).1).respond 0)
  | ebyte (s : State) (p : Byte) (enc : s.role = .enc) (alive : s.dead = false) :
      ByteFlow (.ebyte p) s ((s.headerIfDue.encEmit p).respond 0)
  | ehdr (s : State) (enc : s.role = .enc) (alive : s.dead = false) : ByteFlow .ehdr s (s.headerIfDue.respond 0)

theorem Effect.byteFlow {i : Instr} {s t : State} (h : Effect i s t) : ByteFlow i s t := by
  cases h with
  | illegal _ _ ill => exact .none (.of_raise _ (.inl ill))
  | badState _ _ wrong => exact .none (.of_raise _ (.inr (.inl wrong)))
  | adapterDead _ _ _ _ dead => exact .none (.of_raise _ (.inr (.inr dead)))
  | dbyteInvalid _ c _ _ last =>
    have uncounted : emitCount (.dbyte c) s = 0 := by simp [emitCount, last]
    exact .none ⟨uncounted, rfl, rfl, rfl, rfl, rfl⟩
  | dbyteHeader _ c _ _ more =>
    have uncounted : emitCount (.dbyte c) s = 0 := by simp only [emitCount, more, not_true_eq_false, and_false, if_false]
    exact .none ⟨uncounted, rfl, rfl, rfl, rfl, rfl⟩
  | dbytePayload _ c dec alive done => exact .payload s c (if_pos ⟨dec, alive, done⟩)
  | ebyte _ p enc alive => exact .ebyte s p enc alive
  | ehdr _ enc alive => exact .ehdr s enc alive
  | _ => exact .none ⟨rfl, rfl, rfl, rfl, rfl, rfl⟩

section
variable {s : State} (enc : s.role = .enc) (alive : s.dead = false)
include enc alive

theorem makesHeader_ebyte (p : Byte) : makesHeader (.ebyte p) s = decide (s.hdrCnt < 12#4) := by
  simp [makesHeader, enc, alive]

theorem makesHeader_ehdr : makesHeader .ehdr s = decide (s.hdrCnt < 12#4) := by
  simp [makesHeader, enc, alive]

theorem emitCount_ebyte (p : Byte) : emitCount (.ebyte p) s = if s.hdrCnt < 12#4 then 13 else 1 := by
  simp [emitCount, makesHeader, enc, alive]

theorem emitCount_ehdr : emitCount .ehdr s = if s.hdrCnt < 12#4 then 12 else 0 := by
  simp [emitCount, makesHeader, enc, alive]

end

/-- The header generation appends its twelve bytes, where it is due. -/
theorem State.headerIfDue_out (s : State) :
    ∃ bs, s.headerIfDue.out = s.out ++ bs ∧ bs.length = if s.hdrCnt < 12#4 then 12 else 0 := by
  obtain ⟨due, h⟩ | ⟨done, h⟩ := s.headerIfDue_cases
  · exact ⟨(encBytes s.keys (s.salt ++ [s.vbyte])).1, by rw [h]; rfl, by simp [due, s.salt_length]⟩
  · exact ⟨[], by rw [h, List.append_nil], by rw [if_neg done]; rfl⟩

/-- Settles O43: the header's bytes and then the command's own. -/
theorem outIsAppendOnly : Obligations.OutIsAppendOnly := by
  intro i s t h
  cases (exec_effect i s t h).byteFlow with
  | none same => exact ⟨[], by rw [same.out_eq, List.append_nil], same.emitCount_zero.symm⟩
  | payload _ _ counted => exact ⟨_, rfl, counted.symm⟩
  | ebyte _ p enc alive =>
    obtain ⟨bs, out, length⟩ := s.headerIfDue_out
    refine ⟨bs ++ [(encByte s.headerIfDue.keys p).1], by simp [State.encEmit, out], ?_⟩
    rw [emitCount_ebyte enc alive, List.length_append, length]
    split <;> rfl
  | ehdr _ enc alive =>
    rw [emitCount_ehdr enc alive]
    exact s.headerIfDue_out

/-- What the port gave: eleven draws where the header is due, none elsewhere (R73). -/
theorem State.headerIfDue_port (s : State) :
    s.headerIfDue.entropyPort = s.entropyPort ∧
    if decide (s.hdrCnt < 12#4) then
      s.headerIfDue.entropy = s.entropy.drop 11 ∧ s.headerIfDue.draws = s.draws + (11 - s.entropy.length)
    else s.headerIfDue.entropy = s.entropy ∧ s.headerIfDue.draws = s.draws := by
  obtain ⟨due, h⟩ | ⟨done, h⟩ := s.headerIfDue_cases
  · rw [h, decide_eq_true due]; exact ⟨rfl, rfl, rfl⟩
  · rw [h, decide_eq_false done]; exact ⟨rfl, rfl, rfl⟩

/-- Settles O44: only the header generation draws. -/
theorem entropyDrawnOnlyForHeader : Obligations.EntropyDrawnOnlyForHeader := by
  intro i s t h
  cases (exec_effect i s t h).byteFlow with
  | none same =>
    obtain ⟨port, entropy, draws⟩ := same.port_eq
    rw [same.no_header]
    exact ⟨port, entropy, draws⟩
  | payload => exact ⟨rfl, rfl, rfl⟩
  | ebyte _ p enc alive => rw [makesHeader_ebyte enc alive]; exact s.headerIfDue_port
  | ehdr _ enc alive => rw [makesHeader_ehdr enc alive]; exact s.headerIfDue_port

/-! ### HDR_CNT -/

theorem hdrCnt_le_succ {n : BitVec 4} (more : n < 12#4) : n ≤ n + 1#4 ∧ n + 1#4 ≤ 12#4 := by
  revert n; decide

theorem State.hdrCnt_le_headerIfDue (s : State) : s.hdrCnt ≤ s.headerIfDue.hdrCnt := by
  rw [State.headerIfDue_hdrCnt]
  split
  · exact BitVec.le_of_lt (by assumption)
  · exact BitVec.le_refl _

/-- Settles O45: a header byte counts up, a header generation goes to 12, and only OPEN and CLOSE write 0. -/
theorem hdrCntNeverDecreases : Obligations.HdrCntNeverDecreases := by
  intro i s t h
  cases exec_effect i s t h with
  | openDec | openDecNv | openEnc | close => exact .inr ⟨rfl, by simp⟩
  | dbyteInvalid _ _ _ _ last => exact .inl (last ▸ (by decide : 11#4 ≤ 12#4))
  | dbyteHeader _ _ _ _ more => exact .inl (hdrCnt_le_succ more).1
  | ebyte | ehdr => exact .inl s.hdrCnt_le_headerIfDue
  | _ => exact .inl (BitVec.le_refl _)

end Sys2Proof.Machine
end

section
/-! PROOFS, the steps of the block: the host's events in order (R72, R78, R84), the invariants (R45) and the fault codes
(R271) at every step, the engines of a platform (R290). -/
namespace Sys2Proof.Machine

/-! ### One step -/

theorem step_of_command {s : State} {w : CmdWord} {rest : List HostEvent} (host : s.host = .command w :: rest) :
    step s = runWord w { s with host := rest } :=
  runNext_cons s (.command w) rest host

/-- Settles O46: the step is the run of the word, and the word that of its command. -/
theorem stepRunsDecodedCommand : Obligations.StepRunsDecodedCommand := fun _ _ _ _ host decoded =>
  (step_of_command host).trans (runWord_of_decode_ok decoded _)

/-- Settles O48: the event has no meaning of its own. -/
theorem concurrentCommandsRefused : Obligations.ConcurrentCommandsRefused := fun s w₁ w₂ rest host =>
  runNext_cons s (.together w₁ w₂) rest host

/-- Settles O49: the step is the drain, or the wait. -/
theorem drainAndIdle : Obligations.DrainAndIdle :=
  ⟨fun s n rest host => runNext_cons s (.drain n) rest host, runNext_nil⟩

/-- Everything a step that answers a next state can be: the wait, or the host's next event, which is no pair of commands. -/
inductive StepEffect (s t : State) : Prop where
  | wait (host : s.host = []) (same : t = s)
  | command (w : CmdWord) (rest : List HostEvent) (host : s.host = .command w :: rest)
      (ran : runWord w { s with host := rest } = .next t)
  | drain (n : Nat) (rest : List HostEvent) (host : s.host = .drain n :: rest)
      (drained : t = State.drain { s with host := rest } n)
  | reset (rest : List HostEvent) (host : s.host = .reset :: rest)
      (done : t = State.resetEvent { s with host := rest })

theorem step_effect {s t : State} (h : step s = .next t) : StepEffect s t := by
  cases host : s.host with
  | nil =>
    rw [step, runNext_nil s host] at h
    cases h
    exact .wait host rfl
  | cons e rest =>
    rw [step, runNext_cons s e rest host] at h
    cases e with
    | command w => exact .command w rest host h
    | drain n => cases h; exact .drain n rest host rfl
    | reset => cases h; exact .reset rest host rfl
    | together => cases h

/-! ### The invariants -/

/-- The invariants read ROLE, VERIFY, HDR_CNT and DEAD only. -/
theorem State.Inv.of_same {s t : State} (inv : s.Inv) (role : t.role = s.role) (verify : t.verify = s.verify)
    (hdrCnt : t.hdrCnt = s.hdrCnt) (dead : t.dead = s.dead) : t.Inv := by
  rw [State.Inv, role, verify, hdrCnt, dead]
  exact inv

/-- R45 (c): an encrypting stream does not verify and is never dead. -/
theorem State.Inv.of_enc {s : State} (inv : s.Inv) (enc : s.role = .enc) :
    s.verify = false ∧ s.dead = false ∧ (s.hdrCnt = 0#4 ∨ s.hdrCnt = 12#4) := by
  obtain ⟨-, -, ofEnc, -⟩ := inv
  exact ofEnc enc

/-- A stream just opened. -/
theorem State.inv_openAs (s : State) {r : Role} {v : Bool} (isOpen : r ≠ .none) (checks : r = .enc → v = false) :
    (s.openAs r v).Inv :=
  ⟨BitVec.le_def.2 (Nat.zero_le 12), fun raw => absurd raw isOpen, fun enc => ⟨checks enc, rfl, .inl rfl⟩, nofun⟩

/-- Raw mode. -/
theorem State.inv_closeAdapter (s : State) : s.closeAdapter.Inv :=
  ⟨BitVec.le_def.2 (Nat.zero_le 12), fun _ => ⟨rfl, rfl, rfl⟩, nofun, nofun⟩

/-- A live decrypting stream has any HDR_CNT up to 12. -/
theorem State.inv_setHdrCnt {s : State} (dec : s.role = .dec) (alive : s.dead = false) {n : BitVec 4} (le : n ≤ 12#4) :
    (s.setHdrCnt n).Inv := by
  refine ⟨le, fun raw => ?_, fun enc => ?_, fun dead => ?_⟩
  · cases dec.symm.trans raw
  · cases dec.symm.trans enc
  · cases alive.symm.trans dead

/-- A wrong verification byte (R174). -/
theorem State.inv_setDead {s : State} (dec : s.role = .dec) (verify : s.verify = true) :
    (s.setHdrCnt 12#4).setDead.Inv := by
  refine ⟨BitVec.le_refl _, fun raw => ?_, fun enc => ?_, fun _ => ⟨dec, verify, rfl⟩⟩
  · cases dec.symm.trans raw
  · cases dec.symm.trans enc

/-- Under the invariants the header generation leaves an encrypting stream with HDR_CNT = 12. -/
theorem State.inv_headerIfDue {s : State} (inv : s.Inv) (enc : s.role = .enc) : s.headerIfDue.Inv := by
  obtain ⟨-, h⟩ | ⟨-, h⟩ := s.headerIfDue_cases
  · obtain ⟨verify, dead, -⟩ := inv.of_enc enc
    rw [h]
    refine ⟨BitVec.le_refl _, fun raw => ?_, fun _ => ⟨verify, dead, .inr rfl⟩, fun isDead => ?_⟩
    · cases enc.symm.trans raw
    · cases dead.symm.trans isDead
  · rw [h]; exact inv

theorem Effect.keeps_inv {i : Instr} {s t : State} (h : Effect i s t) (inv : s.Inv) : t.Inv := by
  cases h with
  | openDec | openDecNv | openEnc => exact s.inv_openAs (by simp) (by simp)
  | close => exact s.inv_closeAdapter
  | dbyteInvalid _ c dec _ _ verify => exact State.inv_setDead (s := s.setKeys _) dec verify
  | dbyteHeader _ c dec alive more =>
    exact State.inv_setHdrCnt (s := s.setKeys _) dec alive (hdrCnt_le_succ more).2
  | ebyte _ p enc | ehdr _ enc => exact (State.inv_headerIfDue inv enc).of_same rfl rfl rfl rfl
  | _ => exact inv.of_same rfl rfl rfl rfl

theorem runWord_keeps_inv {w : CmdWord} {s t : State} (h : runWord w s = .next t) (inv : s.Inv) : t.Inv := by
  obtain rfl | ⟨i, -, effect⟩ := runWord_effect h
  · exact inv.of_same rfl rfl rfl rfl
  · exact effect.keeps_inv inv

theorem inv_reset : State.reset.Inv := by decide

/-- Settles O53: every outcome of a command keeps them, a drain does not touch their fields, a reset restores them. -/
theorem stepKeepsInv : Obligations.StepKeepsInv := by
  intro s t inv h
  cases step_effect h with
  | wait _ same => exact same ▸ inv
  | command w rest _ ran => exact runWord_keeps_inv ran (inv.of_same rfl rfl rfl rfl)
  | drain n rest _ drained => exact drained ▸ inv.of_same rfl rfl rfl rfl
  | reset rest _ done => exact done ▸ inv_reset.of_same rfl rfl rfl rfl

theorem Reachable.inv {s : State} (h : Reachable s) : s.Inv := by
  induction h with
  | reset => exact inv_reset.of_same rfl rfl rfl rfl
  | step s t _ stepped inv => exact stepKeepsInv s t inv stepped

theorem Role.bits_ne_three (r : Role) : r.bits ≠ 3#2 := by
  cases r <;> decide

/-- Settles O54: reset has the invariants and every step keeps them. -/
theorem reachableStatesKeepInv : Obligations.ReachableStatesKeepInv := by
  intro s h
  obtain ⟨count, raw, enc, dead⟩ := h.inv
  exact ⟨BitVec.le_def.1 count, raw, enc, dead, s.role.bits_ne_three⟩

/-! ### The fault codes -/

theorem FaultCode.code_le_six (f : FaultCode) : f.code ≤ 6#4 := BitVec.le_def.2 f.code_bounds.2

theorem State.codesInRange_faulted {s : State} {code : BitVec 4} (sticky : s.stickyErr ≤ 6#4) (inRange : code ≤ 6#4) :
    (s.faulted code).CodesInRange := by
  refine ⟨?_, inRange⟩
  change (if s.stickyErr = 0#4 then code else s.stickyErr) ≤ 6#4
  split
  · exact inRange
  · exact sticky

theorem Ending.codesInRange {s t : State} (h : Ending s t) (sticky : s.stickyErr ≤ 6#4) : t.CodesInRange := by
  cases h with
  | ok status same => exact ⟨same ▸ sticky, status ▸ (by decide : 0#4 ≤ 6#4)⟩
  | fault f _ left => exact left ▸ State.codesInRange_faulted sticky f.code_le_six
  | invalidPassword k left =>
    exact left ▸ State.codesInRange_faulted (s := s) sticky (code := 6#4) (by decide)

/-- Settles O52: raw mode with no fault recorded. -/
theorem invAtReset : Obligations.InvAtReset := ⟨inv_reset, by decide⟩

/-- Settles O55: a word ends in one of three ways, a drain changes neither code, a reset puts both at 0. -/
theorem stepKeepsCodesInRange : Obligations.StepKeepsCodesInRange := by
  intro s t codes h
  cases step_effect h with
  | wait _ same => exact same ▸ codes
  | command w rest _ ran => exact (runWord_ending ran).codesInRange codes.1
  | drain n rest _ drained => exact drained ▸ codes
  | reset rest _ done => exact done ▸ invAtReset.2

/-! ### The order of the commands -/

/-- No command touches the host's list. -/
theorem Effect.host_eq {i : Instr} {s t : State} (h : Effect i s t) : t.host = s.host := by
  cases h with
  | ebyte | ehdr => exact s.headerIfDue_host
  | _ => rfl

theorem runWord_host {w : CmdWord} {s t : State} (h : runWord w s = .next t) : t.host = s.host := by
  obtain rfl | ⟨i, -, effect⟩ := runWord_effect h
  · rfl
  · exact effect.host_eq

/-- A step takes exactly the next event. -/
theorem step_host {s t : State} (h : step s = .next t) : t.host = s.host.tail := by
  cases step_effect h with
  | wait host same => rw [same, host]; rfl
  | command w rest host ran => rw [runWord_host ran, host]; rfl
  | drain n rest host drained => rw [drained, host]; rfl
  | reset rest host done => rw [done, host]; rfl

theorem runWords_cons_of_next {w : CmdWord} {ws : List CmdWord} {s t : State} {y : RunYield} (hw : runWord w s = .next t)
    (hws : runWords ws t = .next y) : runWords (w :: ws) s = .next ⟨t.resp :: y.responses, y.final⟩ :=
  andThen_eq_next.2 ⟨t, hw, andThen_eq_next.2 ⟨y, hws, rfl⟩⟩

/-- A run of words is never stopped (R270). -/
theorem runWords_exists_next (ws : List CmdWord) (s : State) : ∃ y, runWords ws s = .next y := by
  induction ws generalizing s with
  | nil => exact ⟨_, rfl⟩
  | cons w ws ih =>
    obtain ⟨t, ht⟩ := runWord_exists_next w s
    obtain ⟨y, hy⟩ := ih t
    exact ⟨_, runWords_cons_of_next ht hy⟩

theorem runWords_append (as bs : List CmdWord) (s : State) :
    ∃ y z, runWords as s = .next y ∧ runWords bs y.final = .next z ∧
      runWords (as ++ bs) s = .next ⟨y.responses ++ z.responses, z.final⟩ := by
  induction as generalizing s with
  | nil =>
    obtain ⟨z, hz⟩ := runWords_exists_next bs s
    exact ⟨⟨[], s⟩, z, rfl, hz, hz⟩
  | cons w as ih =>
    obtain ⟨t, ht⟩ := runWord_exists_next w s
    obtain ⟨y, z, hy, hz, happend⟩ := ih t
    exact ⟨_, z, runWords_cons_of_next ht hy, hz, runWords_cons_of_next ht happend⟩

/-- Settles O56: each event is taken off the list by the step, each word of a run is applied to the end of the one before. -/
theorem commandsInOrder : Obligations.CommandsInOrder := ⟨fun _ _ => step_host, runWords_append⟩

/-! ### The engines of a platform -/

theorem stepEngine_eq_next {p q : Platform} {n : Nat} (h : stepEngine p n = some (.next q)) :
    ∃ s t, p[n]? = some s ∧ step s = .next t ∧ q = p.set n t := by
  unfold stepEngine at h
  split at h
  case h_1 => cases h
  case h_2 s engine =>
    split at h
    case h_1 t stepped => cases h; exact ⟨s, t, engine, stepped, rfl⟩
    all_goals cases h

/-- Settles O57: the step writes one place of the list. -/
theorem enginesAreIndependent : Obligations.EnginesAreIndependent := by
  intro p q n h
  obtain ⟨s, t, engine, stepped, rfl⟩ := stepEngine_eq_next h
  obtain ⟨inside, -⟩ := List.getElem?_eq_some_iff.1 engine
  exact ⟨List.length_set, fun m other => List.getElem?_set_ne other.symm,
    s, t, engine, stepped, List.getElem?_set_self inside⟩

end Sys2Proof.Machine
end

section
/-! PROOFS, the runs in raw mode: KUPD and KINITPW (R108, R136, R141), MLOAD (R108, R232 to R238). -/
namespace Sys2Proof.Machine

/-! ### KUPD and KINITPW -/

theorem update_corner : update ⟨0x000000FF#32, 0xFFFFFFFF#32, 0#32⟩ 0x00#8 =
    ⟨0x2D02EF8D#32, 0x64A832BD#32, 0x4ADFA541#32⟩ := by decide

/-- Settles O14: the update of R132 on the key registers. -/
theorem kupdRule : Obligations.KupdRule :=
  ⟨decode_cmdWord 0x02#8, fun _ b raw => exec_kupd_of_raw raw b, fun _ _ isOpen => exec_of_wrongPhase rfl isOpen,
    update_corner, update_example⟩

/-- Settles O26: KINIT and a fold of updates. -/
theorem kinitPasswordIsInit : Obligations.KinitPasswordIsInit := fun s pw raw =>
  ⟨_, run_kinitPw pw s raw, rfl, rfl⟩

/-! ### MLOAD -/

theorem extractLsb'_byte_bit (c : Word) {n k : Nat} (inByte : n ≤ k ∧ k < n + 8) :
    (c.extractLsb' n 8).getLsbD (k - n) = c.getLsbD k := by
  have offset : k - n < 8 := by omega
  have place : n + (k - n) = k := by omega
  rw [BitVec.getLsbD_extractLsb', place, decide_eq_true offset, Bool.true_and]

/-- The four byte loads together replace the whole checksum. -/
theorem setBytes_all (x c : Word) :
    setByte3 (setByte2 (setByte1 (setByte0 x (c.extractLsb' 0 8)) (c.extractLsb' 8 8)) (c.extractLsb' 16 8))
      (c.extractLsb' 24 8) = c := by
  ext k hk
  rw [← BitVec.getLsbD_eq_getElem, ← BitVec.getLsbD_eq_getElem, setByte3_bit, setByte2_bit, setByte1_bit, setByte0_bit]
  split
  · exact extractLsb'_byte_bit c ‹_›
  split
  · exact extractLsb'_byte_bit c ‹_›
  split
  · exact extractLsb'_byte_bit c ‹_›
  split
  · exact extractLsb'_byte_bit c (n := 0) (by omega)
  · omega

/-- Both halves of the modification time. -/
theorem setModtime_all (x t : BitVec 16) :
    setHigh16 (setLow16 x (t.extractLsb' 0 8)) (t.extractLsb' 8 8) = t := by
  rw [setHigh16_setLow16]
  exact (BitVec.extractLsb'_append_extractLsb'_eq_extractLsb' (x := t) (by decide)).trans BitVec.extractLsb'_eq_self

theorem flagEnc_mload (enc dd : Bool) : flagEnc (0#6 ++ BitVec.ofBool dd ++ BitVec.ofBool enc) = enc := by
  cases enc <;> cases dd <;> rfl

theorem flagDd_mload (enc dd : Bool) : flagDd (0#6 ++ BitVec.ofBool dd ++ BitVec.ofBool enc) = dd := by
  cases enc <;> cases dd <;> rfl

section
variable {s : State} (raw : s.role = .none)
include raw

theorem run_modtime (t : BitVec 16) :
    run [.mtimeLo (t.extractLsb' 0 8), .mtimeHi (t.extractLsb' 8 8)] s =
      .next ⟨List.replicate 2 ⟨0#4, 0#32⟩, (s.setModtime t).respond 0⟩ := by
  have hi (x : BitVec 16) (b : Byte) :
      exec (.mtimeHi b) ((s.setModtime x).respond 0) = .next ((s.setModtime (setHigh16 x b)).respond 0) :=
    exec_mtimeHi_of_raw (s := (s.setModtime x).respond 0) raw b
  rw [run_cons_of_next (exec_mtimeLo_of_raw raw _) (run_cons_of_next (hi _ _) rfl), setModtime_all]
  rfl

theorem run_crc (c : BitVec 32) :
    run [.mcrc0 (c.extractLsb' 0 8), .mcrc1 (c.extractLsb' 8 8), .mcrc2 (c.extractLsb' 16 8),
        .mcrc3 (c.extractLsb' 24 8)] s =
      .next ⟨List.replicate 4 ⟨0#4, 0#32⟩, (s.setCrc c).respond 0⟩ := by
  have byte1 (x : Word) (b : Byte) :
      exec (.mcrc1 b) ((s.setCrc x).respond 0) = .next ((s.setCrc (setByte1 x b)).respond 0) :=
    exec_mcrc1_of_raw (s := (s.setCrc x).respond 0) raw b
  have byte2 (x : Word) (b : Byte) :
      exec (.mcrc2 b) ((s.setCrc x).respond 0) = .next ((s.setCrc (setByte2 x b)).respond 0) :=
    exec_mcrc2_of_raw (s := (s.setCrc x).respond 0) raw b
  have byte3 (x : Word) (b : Byte) :
      exec (.mcrc3 b) ((s.setCrc x).respond 0) = .next ((s.setCrc (setByte3 x b)).respond 0) :=
    exec_mcrc3_of_raw (s := (s.setCrc x).respond 0) raw b
  rw [run_cons_of_next (exec_mcrc0_of_raw raw _) <| run_cons_of_next (byte1 _ _) <|
    run_cons_of_next (byte2 _ _) <| run_cons_of_next (byte3 _ _) rfl, setBytes_all]
  rfl

theorem run_flags (enc dd : Bool) :
    run [.mflags (0#6 ++ BitVec.ofBool dd ++ BitVec.ofBool enc)] s =
      .next ⟨[⟨0#4, 0#32⟩], (s.setFlags enc dd).respond 0⟩ := by
  rw [run_cons_of_next (exec_mflags_of_raw raw (mload_flags_toNat_lt enc dd)) rfl, flagEnc_mload, flagDd_mload]
  rfl

end

/-- Settles O31: the flags, the modification time and the checksum, one after the other in raw mode. -/
theorem mloadLoadsMetadata : Obligations.MloadLoadsMetadata := by
  intro s enc dd t c raw
  have flags := run_flags raw enc dd
  have modtime := run_modtime (s := (s.setFlags enc dd).respond 0) raw t
  have crc := run_crc (s := (((s.setFlags enc dd).respond 0).setModtime t).respond 0) raw c
  exact ⟨_, run_append_of_next flags (run_append_of_next modtime crc), rfl, rfl⟩

end Sys2Proof.Machine
end

section
/-! PROOFS, the runs of an open stream: PWB and PASSWORD (R230), EBYTE, EHDR and ENCRYPT (R202, R203), DECRYPT (R173), the
round trip (R204). -/
namespace Sys2Proof.Machine

/-! ### PWB and PASSWORD -/

theorem exec_pwb_of_keying {s : State} (isOpen : s.role ≠ .none) (keying : s.hdrCnt = 0#4) (b : Byte) :
    exec (.pwb b) s = .next ((s.setKeys (update s.keys b)).respond 0) :=
  if_neg (not_or.2 ⟨isOpen, not_not_intro keying⟩)

/-- PASSWORD folds every byte into the keys of an adapter in the KEYING phase, each response OK with data 0. -/
theorem run_password (pw : List Byte) {s : State} (isOpen : s.role ≠ .none) (keying : s.hdrCnt = 0#4) :
    run (expand (.password pw)) (s.respond 0) =
      .next ⟨List.replicate pw.length ⟨0#4, 0#32⟩, (s.setKeys (updateAll s.keys pw)).respond 0⟩ := by
  induction pw generalizing s with
  | nil => rfl
  | cons b pw ih =>
    have first := exec_pwb_of_keying (s := s.respond 0) isOpen keying b
    exact run_cons_of_next first (ih (s := s.setKeys (update s.keys b)) isOpen keying)

/-- An OPEN command that ends OK, and PASSWORD after it: the keys are INIT of the password. -/
theorem run_open_password {i : Instr} {s : State} {r : Role} {v : Bool} (isOpen : r ≠ .none)
    (opened : exec i s = .next ((s.openAs r v).respond 0)) (pw : List Byte) :
    run (i :: expand (.password pw)) s =
      .next ⟨List.replicate (pw.length + 1) ⟨0#4, 0#32⟩, ((s.openAs r v).setKeys (initKeys pw)).respond 0⟩ :=
  run_cons_of_next opened (run_password pw (s := s.openAs r v) isOpen rfl)

/-- The only outcome of an OPEN command with status OK. -/
theorem Effect.opened {i : Instr} {s t : State} (h : Effect i s t) (opens : i = .openDec ∨ i = .openDecNv ∨ i = .openEnc)
    (ok : t.resp.status = 0#4) : ∃ r v, r ≠ .none ∧ t = (s.openAs r v).respond 0 := by
  cases h with
  | openDec | openDecNv => exact ⟨.dec, _, by decide, rfl⟩
  | openEnc => exact ⟨.enc, _, by decide, rfl⟩
  | illegal | badState | adapterDead | notEncrypted | encFlagNotSet => cases ok
  | _ => simp at opens

/-- The keys of the password "secret". -/
theorem initKeys_secret : initKeys [0x73#8, 0x65#8, 0x63#8, 0x72#8, 0x65#8, 0x74#8] =
    ⟨0xDDA9E469#32, 0x96212999#32, 0xF9FC9651#32⟩ := by decide

/-- Settles O25: PWB is an update in the KEYING phase, where an OPEN command that ends OK leads. -/
theorem pwbRule : Obligations.PwbRule := by
  refine ⟨decode_cmdWord 0x13#8, fun s b isOpen keying => exec_pwb_of_keying isOpen keying b,
    fun s b wrong => exec_of_wrongPhase rfl wrong, fun i s t pw opens h ok => ?_, initKeys_secret⟩
  obtain ⟨r, v, isOpen, rfl⟩ := (exec_effect i s t h).opened opens ok
  exact ⟨_, run_open_password isOpen h pw, rfl, rfl⟩

/-! ### EBYTE and EHDR -/

theorem State.afterHeader_out (s : State) :
    s.afterHeader.out = s.out ++ (encBytes s.keys (s.salt ++ [s.vbyte])).1 := rfl

theorem State.headerIfDue_eq_ite (s : State) : s.headerIfDue = if s.hdrCnt.toNat < 12 then s.afterHeader else s := by
  rw [State.headerIfDue, State.emitHeader_eq_afterHeader]
  exact if_congr BitVec.lt_def rfl rfl

section
variable {s : State} (enc : s.role = .enc)
include enc

theorem exec_ebyte_of_alive (alive : s.dead = false) (p : Byte) :
    exec (.ebyte p) s = .next ((s.headerIfDue.encEmit p).respond 0) := by
  rw [exec, execEbyte, if_neg (not_not_intro enc), if_neg (by simp [alive])]

/-- R274, outside the invariants. -/
theorem exec_ebyte_of_dead (dead : s.dead = true) (p : Byte) : exec (.ebyte p) s = .next (s.faulted 3#4) := by
  rw [exec, execEbyte, if_neg (not_not_intro enc), if_pos dead, State.raise_eq_faulted, FaultCode.code]

theorem exec_ehdr_of_alive (alive : s.dead = false) : exec .ehdr s = .next (s.headerIfDue.respond 0) := by
  rw [exec, execEhdr, if_neg (not_not_intro enc), if_neg (by simp [alive])]

/-- R274, outside the invariants. -/
theorem exec_ehdr_of_dead (dead : s.dead = true) : exec .ehdr s = .next (s.faulted 3#4) := by
  rw [exec, execEhdr, if_neg (not_not_intro enc), if_pos dead, State.raise_eq_faulted, FaultCode.code]

theorem exec_ehdr_of_due (alive : s.dead = false) (due : s.hdrCnt.toNat < 12) :
    exec .ehdr s = .next (s.afterHeader.respond 0) := by
  rw [exec_ehdr_of_alive enc alive, State.headerIfDue_of_lt (BitVec.lt_def.2 due)]

theorem exec_ehdr_of_done (alive : s.dead = false) (done : 12 ≤ s.hdrCnt.toNat) : exec .ehdr s = .next (s.respond 0) := by
  rw [exec_ehdr_of_alive enc alive, State.headerIfDue_of_done fun due => Nat.not_lt.2 done (BitVec.lt_def.1 due)]

end

/-! ### The example of EBYTE and EHDR: the stream of program P2 -/

/-- An encrypting stream with the password "secret", the checksum 0x12345678 and the salt bytes 0 to 10. -/
def exampleStream : State :=
  { State.reset with
    role := .enc, metaEnc := true, metaCrc := 0x12345678#32
    keys := initKeys [0x73#8, 0x65#8, 0x63#8, 0x72#8, 0x65#8, 0x74#8]
    entropy := [0x00#8, 0x01#8, 0x02#8, 0x03#8, 0x04#8, 0x05#8, 0x06#8, 0x07#8, 0x08#8, 0x09#8, 0x0A#8] }

theorem encBytes_example_header :
    encBytes ⟨0xDDA9E469#32, 0x96212999#32, 0xF9FC9651#32⟩
      [0x00#8, 0x01#8, 0x02#8, 0x03#8, 0x04#8, 0x05#8, 0x06#8, 0x07#8, 0x08#8, 0x09#8, 0x0A#8, 0x12#8] =
    ([0xC8#8, 0x88#8, 0xC2#8, 0xBF#8, 0x0D#8, 0xE3#8, 0xA4#8, 0x03#8, 0xF4#8, 0x15#8, 0x32#8, 0xCB#8],
      ⟨0x1FDCA603#32, 0xF1A084DF#32, 0xED9C678E#32⟩) := by decide

theorem encBytes_example_payload :
    (encBytes ⟨0x1FDCA603#32, 0xF1A084DF#32, 0xED9C678E#32⟩ [0x68#8, 0x69#8]).1 = [0x92#8, 0x5E#8] := by decide

/-- The header of the example. -/
theorem exampleStream_header :
    exampleStream.afterHeader.out =
      [0xC8#8, 0x88#8, 0xC2#8, 0xBF#8, 0x0D#8, 0xE3#8, 0xA4#8, 0x03#8, 0xF4#8, 0x15#8, 0x32#8, 0xCB#8] ∧
    exampleStream.afterHeader.keys = ⟨0x1FDCA603#32, 0xF1A084DF#32, 0xED9C678E#32⟩ := by
  have keys : exampleStream.keys = ⟨0xDDA9E469#32, 0x96212999#32, 0xF9FC9651#32⟩ := initKeys_secret
  have plain : exampleStream.salt ++ [exampleStream.vbyte] =
      [0x00#8, 0x01#8, 0x02#8, 0x03#8, 0x04#8, 0x05#8, 0x06#8, 0x07#8, 0x08#8, 0x09#8, 0x0A#8, 0x12#8] := rfl
  rw [State.afterHeader_out, State.afterHeader_keys, ← encBytes_keys, keys, plain, encBytes_example_header]
  exact ⟨rfl, rfl⟩

/-- Settles O23: the header generation where it is due, then ENCBYTE; the example's bytes follow from its header. -/
theorem ebyteRule : Obligations.EbyteRule := by
  have header : exampleStream.headerIfDue = exampleStream.afterHeader := State.headerIfDue_of_lt (by decide)
  have alive : exampleStream.afterHeader.dead = false := rfl
  have enc : exampleStream.afterHeader.role = .enc := rfl
  have done : ¬ exampleStream.afterHeader.hdrCnt < 12#4 := by simp [State.afterHeader]
  obtain ⟨out, keys⟩ := exampleStream_header
  have first := exec_ebyte_of_alive (s := exampleStream) rfl rfl 0x68#8
  rw [header] at first
  generalize exampleStream.afterHeader = h at *
  have second := exec_ebyte_of_alive (s := (h.encEmit 0x68#8).respond 0) enc alive 0x69#8
  rw [State.headerIfDue_of_done (s := (h.encEmit 0x68#8).respond 0) done] at second
  have payload := encBytes_example_payload
  simp only [← keys, encBytes, List.cons.injEq, and_true] at payload
  obtain ⟨byte68, byte69⟩ := payload
  refine ⟨decode_cmdWord 0x15#8, fun s p notEnc => exec_of_wrongPhase rfl notEnc,
    fun s p enc dead => exec_ebyte_of_dead enc dead p, fun s p enc alive => ?_,
    fun s inv enc => (inv.of_enc enc).2.1, _, _, first, ?_, second, ?_⟩
  · rw [exec_ebyte_of_alive enc alive, State.headerIfDue_eq_ite]
    rfl
  · simp [State.encEmit, byte68, out]
  · exact congrArg (fun b => _ ++ [b]) byte69

/-- Settles O24: the header generation alone, once; the example's bytes are those of its header. -/
theorem ehdrRule : Obligations.EhdrRule := by
  refine ⟨rfl, fun s notEnc => exec_of_wrongPhase rfl notEnc, fun s enc dead => exec_ehdr_of_dead enc dead,
    fun s enc alive due => exec_ehdr_of_due enc alive due, fun s enc alive done => exec_ehdr_of_done enc alive done,
    fun s d nonzero => runWord_of_zeroClass rfl nonzero s, fun s inv enc => (inv.of_enc enc).2.1,
    exampleStream.afterHeader.respond 0, exec_ehdr_of_due (s := exampleStream) rfl rfl (by decide),
    exampleStream_header.1, ?_⟩
  exact exec_ehdr_of_done (s := exampleStream.afterHeader.respond 0) rfl rfl (by simp [State.afterHeader])

/-! ### ENCRYPT -/

/-- EBYTE over a byte sequence after the header: the bytes are encrypted and emitted in order. -/
theorem run_ebytes (m : List Byte) {s : State} (enc : s.role = .enc) (alive : s.dead = false) (done : ¬ s.hdrCnt < 12#4) :
    run (m.map .ebyte) (s.respond 0) =
      .next ⟨List.replicate m.length ⟨0#4, 0#32⟩, (m.foldl State.encEmit s).respond 0⟩ := by
  induction m generalizing s with
  | nil => rfl
  | cons p m ih =>
    have first := exec_ebyte_of_alive (s := s.respond 0) enc alive p
    rw [State.headerIfDue_of_done (s := s.respond 0) done] at first
    exact run_cons_of_next first (ih (s := s.encEmit p) enc alive done)

/-- ENCRYPT right after OPEN_ENC and PASSWORD: the header, then the payload; EHDR makes the header of an empty one. -/
theorem run_encrypt (m : List Byte) {s : State} (enc : s.role = .enc) (alive : s.dead = false) (due : s.hdrCnt < 12#4) :
    ∃ rs, run (expand (.encrypt m)) s = .next ⟨rs, (m.foldl State.encEmit s.afterHeader).respond 0⟩ := by
  have header := State.headerIfDue_of_lt due
  have enc' : s.afterHeader.role = .enc := enc
  have alive' : s.afterHeader.dead = false := alive
  have done : ¬ s.afterHeader.hdrCnt < 12#4 := by simp [State.afterHeader]
  generalize s.afterHeader = h at *
  cases m with
  | nil =>
    have only := exec_ehdr_of_alive enc alive
    rw [header] at only
    exact ⟨_, run_cons_of_next (y := ⟨[], h.respond 0⟩) only rfl⟩
  | cons p m =>
    have first := exec_ebyte_of_alive enc alive p
    rw [header] at first
    exact ⟨_, run_cons_of_next first (run_ebytes m (s := h.encEmit p) enc' alive' done)⟩

/-! ### DECRYPT -/

theorem encBytes_append (k : Keys) (as bs : List Byte) :
    encBytes k (as ++ bs) =
      ((encBytes k as).1 ++ (encBytes (encBytes k as).2 bs).1, (encBytes (encBytes k as).2 bs).2) := by
  induction as generalizing k with
  | nil => rfl
  | cons a as ih => simp [encBytes, ih]

theorem run_decrypt_append {as bs : List Byte} {s : State} {y z : RunYield} (has : run (expand (.decrypt as)) s = .next y)
    (hbs : run (expand (.decrypt bs)) y.final = .next z) :
    run (expand (.decrypt (as ++ bs))) s = .next ⟨y.responses ++ z.responses, z.final⟩ := by
  rw [show expand (.decrypt (as ++ bs)) = expand (.decrypt as) ++ expand (.decrypt bs) from List.map_append]
  exact run_append_of_next has hbs

/-- DECRYPT of the first eleven bytes of a header, encrypted with the same keys. -/
theorem run_decrypt_salt {salt : List Byte} (eleven : salt.length = 11) {s : State} (dec : s.role = .dec)
    (alive : s.dead = false) (start : s.hdrCnt = 0#4) :
    run (expand (.decrypt (encBytes s.keys salt).1)) (s.respond 0) =
      .next ⟨List.replicate 11 ⟨0#4, 0#32⟩, ((s.setKeys (updateAll s.keys salt)).setHdrCnt 11#4).respond 0⟩ := by
  have count : (encBytes s.keys salt).1.length = 11 := (encBytes_length _ _).trans eleven
  rw [run_dbytes_of_header _ s dec alive (by simp [start, count]), decBytes_encBytes, encBytes_keys, count, start]
  rfl

/-- DECRYPT of the last header byte, encrypted from the same verification byte: it is accepted. -/
theorem run_decrypt_last {s : State} (dec : s.role = .dec) (alive : s.dead = false) (last : s.hdrCnt = 11#4) :
    run (expand (.decrypt [(encByte s.keys s.vbyte).1])) (s.respond 0) =
      .next ⟨[⟨0#4, 0#32⟩], ((s.setKeys (update s.keys s.vbyte)).setHdrCnt 12#4).respond 0⟩ := by
  have accepted : (decByte s.keys (encByte s.keys s.vbyte).1).1 = s.vbyte := by rw [decByte_encByte]
  have accepts := exec_dbyte_of_accepted (s := s.respond 0) dec alive (.inr ⟨by simp [last], .inr accepted⟩)
  rw [State.respond_keys, decByte_encByte, State.respond_hdrCnt, last] at accepts
  exact run_cons_of_next (y := ⟨[], ((s.setKeys (update s.keys s.vbyte)).setHdrCnt 12#4).respond 0⟩) accepts rfl

/-- DECRYPT of a whole encrypted header with the same keys and verification byte. -/
theorem run_decrypt_header {salt : List Byte} (eleven : salt.length = 11) {s : State} (dec : s.role = .dec)
    (alive : s.dead = false) (start : s.hdrCnt = 0#4) :
    run (expand (.decrypt (encBytes s.keys (salt ++ [s.vbyte])).1)) (s.respond 0) =
      .next ⟨List.replicate 12 ⟨0#4, 0#32⟩,
        ((s.setKeys (updateAll s.keys (salt ++ [s.vbyte]))).setHdrCnt 12#4).respond 0⟩ := by
  have last := run_decrypt_last (s := (s.setKeys (updateAll s.keys salt)).setHdrCnt 11#4) dec alive rfl
  rw [encBytes_append, encBytes_keys, updateAll_append]
  exact run_decrypt_append (run_decrypt_salt eleven dec alive start) last

/-- DECRYPT of an encrypted payload with the same keys. -/
theorem run_decrypt_payload (m : List Byte) {s : State} (dec : s.role = .dec) (alive : s.dead = false)
    (done : s.hdrCnt = 12#4) :
    run (expand (.decrypt (encBytes s.keys m).1)) (s.respond 0) =
      .next ⟨List.replicate m.length ⟨0#4, 0#32⟩, (m.foldl State.emit (s.setKeys (updateAll s.keys m))).respond 0⟩ := by
  induction m generalizing s with
  | nil => rfl
  | cons p m ih =>
    have accepts := exec_dbyte_of_payload (s := s.respond 0) (c := (encByte s.keys p).1) dec alive (by simp [done])
    rw [State.respond_keys, decByte_encByte] at accepts
    exact run_cons_of_next accepts (ih (s := (s.setKeys (encByte s.keys p).2).emit p) dec alive done)

theorem State.foldl_emit (m : List Byte) (s : State) : m.foldl State.emit s = { s with out := s.out ++ m } := by
  induction m generalizing s with
  | nil => simp
  | cons p m ih => simp [ih, State.emit]

/-- DECRYPT of a whole stream, header and payload, with the same keys and verification byte: the payload goes to OUT. -/
theorem run_decrypt_stream {salt : List Byte} (eleven : salt.length = 11) (m : List Byte) {s : State} (dec : s.role = .dec)
    (alive : s.dead = false) (start : s.hdrCnt = 0#4) :
    run (expand (.decrypt (encBytes s.keys (salt ++ [s.vbyte] ++ m)).1)) (s.respond 0) =
      .next ⟨List.replicate 12 ⟨0#4, 0#32⟩ ++ List.replicate m.length ⟨0#4, 0#32⟩,
        { s with
          keys := updateAll s.keys (salt ++ [s.vbyte] ++ m), hdrCnt := 12#4, out := s.out ++ m, resp := ⟨0#4, 0#32⟩ }⟩ := by
  have payload := run_decrypt_payload m
    (s := (s.setKeys (updateAll s.keys (salt ++ [s.vbyte]))).setHdrCnt 12#4) dec alive rfl
  rw [encBytes_append, encBytes_keys, updateAll_append _ _ m]
  refine (run_decrypt_append (run_decrypt_header eleven dec alive start) payload).trans ?_
  rw [State.foldl_emit]
  rfl

/-! ### The round trip -/

/-- The header and the payload are one encrypted sequence, the keys passed along. -/
theorem State.foldl_encEmit_afterHeader (s : State) (m : List Byte) :
    (m.foldl State.encEmit s.afterHeader).out = s.out ++ (encBytes s.keys (s.salt ++ [s.vbyte] ++ m)).1 ∧
    (m.foldl State.encEmit s.afterHeader).keys = updateAll s.keys (s.salt ++ [s.vbyte] ++ m) := by
  rw [State.foldl_encEmit, encBytes_append, encBytes_keys, updateAll_append _ _ m, State.afterHeader_out,
    State.afterHeader_keys]
  exact ⟨List.append_assoc _ _ _, rfl⟩

/-- A whole encrypting session: header and payload go to OUT as one sequence encrypted from INIT of the password. -/
theorem run_encrypting_session (pw m : List Byte) {e : State} (raw : e.role = .none) (enc : e.metaEnc = true) :
    ∃ (salt : List Byte) (y : RunYield), salt.length = 11 ∧
      run (.openEnc :: expand (.password pw) ++ expand (.encrypt m)) e = .next y ∧
      y.final.out = e.out ++ (encBytes (initKeys pw) (salt ++ [e.vbyte] ++ m)).1 ∧
      y.final.keys = updateAll (initKeys pw) (salt ++ [e.vbyte] ++ m) := by
  have opened := run_open_password (by decide) (exec_openEnc_of_raw raw enc) pw
  have keys : (((e.openAs .enc false).setKeys (initKeys pw)).respond 0).keys = initKeys pw := rfl
  have out : (((e.openAs .enc false).setKeys (initKeys pw)).respond 0).out = e.out := rfl
  have vbyte : (((e.openAs .enc false).setKeys (initKeys pw)).respond 0).vbyte = e.vbyte := rfl
  obtain ⟨rs, encrypted⟩ := run_encrypt m (s := ((e.openAs .enc false).setKeys (initKeys pw)).respond 0) rfl rfl
    (by simp)
  generalize ((e.openAs .enc false).setKeys (initKeys pw)).respond 0 = s at *
  rw [← keys, ← out, ← vbyte]
  obtain ⟨outAfter, keysAfter⟩ := s.foldl_encEmit_afterHeader m
  exact ⟨s.salt, _, s.salt_length, run_append_of_next opened encrypted, outAfter, keysAfter⟩

/-- A whole decrypting session, with the password and the verification byte of the stream it reads. -/
theorem run_decrypting_session {salt : List Byte} (eleven : salt.length = 11) (pw m : List Byte) {d : State}
    (raw : d.role = .none) (enc : d.metaEnc = true) :
    ∃ y : RunYield,
      run (.openDec :: expand (.password pw) ++
        expand (.decrypt (encBytes (initKeys pw) (salt ++ [d.vbyte] ++ m)).1)) d = .next y ∧
      y.responses = List.replicate (pw.length + 1 + (12 + m.length)) ⟨0#4, 0#32⟩ ∧ y.final.out = d.out ++ m ∧
      y.final.keys = updateAll (initKeys pw) (salt ++ [d.vbyte] ++ m) := by
  have opened := run_open_password (by decide) (exec_openDec_of_raw raw enc) pw
  have decrypted := run_decrypt_stream eleven m (s := (d.openAs .dec true).setKeys (initKeys pw)) rfl rfl rfl
  refine ⟨_, run_append_of_next opened decrypted, ?_, rfl, rfl⟩
  simp only [List.replicate_append_replicate]

theorem SameMeta.vbyte_eq {s t : State} (same : SameMeta s t) : s.vbyte = t.vbyte := by
  obtain ⟨-, dd, modtime, crc⟩ := same
  rw [State.vbyte, State.vbyte, dd, modtime, crc]

/-- Settles O58: both streams start from INIT of the password, and the shared metadata give both sides one verification
byte. -/
theorem roundTrip : Obligations.RoundTrip := by
  intro e d pw m rawE rawD enc same
  obtain ⟨salt, y, eleven, encrypted, out, keys⟩ := run_encrypting_session pw m rawE enc
  obtain ⟨z, decrypted, responses, out', keys'⟩ := run_decrypting_session eleven pw m rawD (same.1 ▸ enc)
  rw [← same.vbyte_eq] at decrypted keys'
  refine ⟨y, _, z, encrypted, out, ?_, decrypted, fun r mem => ?_, out', keys'.trans keys.symm⟩
  · simp [eleven]
    omega
  · exact List.eq_of_mem_replicate (responses ▸ mem)

end Sys2Proof.Machine
end
